-- ==== Sys2Proof/Word.lean ====
section
/-! DEFINITION. The word types of the machine and the plainest arithmetic on them (00_scope.md R12, R13). -/

namespace Sys2Proof

/-- A 64-bit word (R12). -/
abbrev Word := BitVec 64

/-- An 8-bit byte (R12). -/
abbrev Byte := BitVec 8

/-- `sext_N(v)` of R13: an N-bit value sign-extended to a word. -/
abbrev sext {n : Nat} (v : BitVec n) : Word := v.signExtend 64

/-- `zext_N(v)` of R13: an N-bit value zero-extended to a word. -/
abbrev zext {n : Nat} (v : BitVec n) : Word := v.setWidth 64

/-- A truth value as a word: 1 or 0. -/
abbrev wordOfBool (b : Bool) : Word := if b then 1 else 0

end Sys2Proof
end

