-- ==== Sys2Proof/Config.lean ====
section
/-! DEFINITION. What an implementation fixes (00_scope.md R5 to R7, 92_eei_decisions.md section 1) and the free
values: opaque constants that stand for what the spec leaves open. A free value is applied to `State.clock`, the
step counter, so that every step draws anew (log 11). -/

namespace Sys2Proof.Config

/-- Byte order of data in memory (parameter DATA_ENDIAN, 20_memory.md R82). -/
inductive Endian where
  | little
  | big
  deriving DecidableEq, Repr

/-- What a read of EXC gives after an entry (parameter EXC_MODEL, 10_state.md R51). -/
inductive ExcModel where
  | vector
  | anyValue
  deriving DecidableEq, Repr

/-- DBW, the width of the data the core processes: the 64-bit machine (00_scope.md R5, 90_conflicts.md C24; log 38). -/
def dbw : Nat := 64

/-- ABW, the width of the external address bus, default 32 (00_scope.md R5). No rule truncates an address by it: it says
which bits leave the core, and what the platform does with the bits at or above it is the platform's (log 38). -/
def abw : Nat := 32

/-- ALU1BIG, default 0: timing only (00_scope.md R5; log 45). -/
def alu1Big : Bool := false

/-- DATA_ENDIAN, default little (R82, D1; log 47). -/
def dataEndian : Endian := .little

/-- EXC_MODEL, default vector (R51, D22; log 38). -/
def excModel : ExcModel := .vector

/-- LOOP_DEC_AT_ZERO, default false (40_control_transfer.md R182, D9; log 38). -/
def loopDecAtZero : Bool := false

/-- DIV_OVERFLOW_TRAPS, default true (42_arithmetic.md R265, D35; log 38). -/
def divOverflowTraps : Bool := true

/-- NMI_NESTS, default false (60_exceptions.md R573, D21; log 38). -/
def nmiNests : Bool := false

/-- SSTEP_IN_KERNEL, default false (60_exceptions.md R595, D45; log 38). -/
def sstepInKernel : Bool := false

/-- TRAP_ILLEGALOPS, default true (30_encoding.md R137; log 38). -/
def trapIllegalOps : Bool := true

/-- Where execution starts after reset (70_reset_and_hazards.md R620). -/
def resetAddress : Word := 0xFFFFFFFFFFFFEFF0#64

/-- The clock pattern after reset or NMI, half rate (10_state.md R63, 46_system.md R512). -/
def halfRate : BitVec 16 := 0xAAAA#16

/-- The `corenum` input, a hardcoded constant of the core (60_exceptions.md R608). -/
opaque corenum : BitVec 32

/-- MID_VALUE, the Machine ID (10_state.md R47). -/
opaque midValue : Word

/-- FEAT_VALUE, the Features register (10_state.md R47). -/
opaque featValue : Word

/-- CPUID_FEATURES, row 10 of the CPUID table (46_system.md R487). -/
opaque cpuidFeatures : Word

/-- S_POLARITY: the value of SR bit 13 in kernel mode; the source does not say (10_state.md R40, D38). -/
opaque sPolarity : Bool

/-- FREE: the quotient of DIVU and DIVUI by zero, from the step counter and the dividend
(42_arithmetic.md R267; log 12). -/
opaque divuByZero : Nat → Word → Word

/-- FREE: the result of a BCD operation on a byte with a digit above 9 (42_arithmetic.md R286 to R288; log 13). -/
opaque bcdInvalid : Nat → Word

/-- FREE: a CPUID row the table does not list, from the step counter and the index (46_system.md R487; log 14). -/
opaque cpuidUnlisted : Nat → Word → Word

/-- FREE: what a read of the write-only BIR gives (10_state.md R52; log 15). -/
opaque birRead : Nat → Word

/-- FREE: the tick counter as the environment shows it, before the constraint that it does not fall
(10_state.md R47; log 15). -/
opaque tickRead : Nat → Word

/-- FREE: the number from which the random TLB way is drawn (10_state.md R57, 46_system.md R524; log 16). -/
opaque randomDraw : Nat → Nat

/-- FREE: the Index register after a probe (46_system.md R522; log 16). -/
opaque probeIndex : Nat → BitVec 6

/-- FREE: whether an event before the next SYNC sees the new C12 (70_reset_and_hazards.md R631; log 17). -/
opaque seesNewC12 : Nat → Bool

/-- FREE: whether an access before the next MEMSB or SYNC sees the new segment base, from the step counter and
the access's number in the step (70_reset_and_hazards.md R632; log 18). -/
opaque seesNewSegment : Nat → Nat → Bool

/-- FREE: the same for the segment limit (R632; log 18). -/
opaque seesNewLimit : Nat → Nat → Bool

/-- FREE: which of the bytes that stood at an address since the last invalidate a fetch sees
(20_memory.md R117; log 19). -/
opaque stalePick : Nat → Nat → Nat

/-- FREE: whether two physical addresses lie in one instruction cache line; line sizes are not given
(20_memory.md R118, 46_system.md R498; log 19). -/
opaque sameCacheLine : Nat → Nat → Bool

/-- FREE: whether two physical addresses lie in one reserved region; its size is the memory system's
(20_memory.md R112; log 21). -/
opaque sameReservation : Word → Word → Bool

/-- FREE: a byte read from a device, from the step counter, the access's number and the address
(20_memory.md R119; log 24). -/
opaque deviceByte : Nat → Nat → Nat → Byte

/-- FREE: EXC after an entry under EXC_MODEL = opaque (10_state.md R51; log 38). -/
opaque excAnyValue : Nat → Word

/-- FREE: the state the reset input leaves unspecified, from the step counter and a number for each register
(70_reset_and_hazards.md R621; log 23). -/
opaque resetValue : Nat → Nat → Word

end Sys2Proof.Config
end

