-- ==== Sys2Proof/Machine/State.lean ====
section
/-! DEFINITION. The state of the machine, the reasons a step can stop, and the state after reset (10_state.md).
INVENTORY.md lists every field with its rule, width and reset value. -/

namespace Sys2Proof.Machine

/-- Why the machine stops although the access has a meaning in the spec's address map. Closed. -/
inductive Fault where
  /-- Raised by a data access or a fetch whose segmented address lies in FFFFFFFFFFFFF000h..FFFFFFFFFFFFFFFFh, which
  the spec says does not serve instructions or data (20_memory.md R87). Safe: the machine stops. -/
  | unreachablePage
  deriving DecidableEq, Repr

/-- Why a step has no meaning. Every constructor is safe: the machine stops where the spec gives no effect. Closed. -/
inductive Refusal where
  /-- Raised by exec's arm of an instruction that has no meaning yet. Safe. -/
  | notModelled (mnemonic : String)
  /-- Raised by the fetch of a first byte that names no predicate and no special form (30_encoding.md R136). Safe. -/
  | reservedPredicate
  /-- Raised by a prefix before an instruction that takes none, another prefix or a one-byte special
  (30_encoding.md R141). Safe. -/
  | immediateNotTaken
  /-- Raised by an undefined opcode when TRAP_ILLEGALOPS is off (30_encoding.md R137). Safe. -/
  | untrappedIllegal
  /-- Raised by a floating point name of the opcode map: no format and no effect is given (47_map_only.md R545,
  R550). Safe. -/
  | floatingPoint
  /-- Raised by PUSH, PEA, POP, LINK and UNLINK: no format and no effect is given (47_map_only.md R547). Safe. -/
  | stackInstruction
  /-- Raised by SGN, REDOR, REDAND, PAR and the name IMM at FFh: a name only (47_map_only.md R541, R543, R549).
  Safe. -/
  | nameOnly
  /-- Raised by an instruction that names r28 to r31 in application mode (10_state.md R23). Safe. -/
  | kernelOnlyRegister
  /-- Raised by an access whose address is no multiple of its size (20_memory.md R88). Safe. -/
  | misaligned
  /-- Raised by an entry whose vector address is outside the non-segmented code area (60_exceptions.md R567). Safe. -/
  | vectorOutsideArea
  /-- Raised by a translation under PageSize 5, 6 or 7 (20_memory.md R101). Safe. -/
  | tlbPageSize
  /-- Raised by a translation that two ways match (20_memory.md R102). Safe. -/
  | tlbMultipleHit
  /-- Raised by TLBRDREG and TLBWRREG of a number that is not listed (46_system.md R528, R529). Safe. -/
  | tlbRegister
  /-- Raised by an SPR move of a number that is not listed (10_state.md R53). Safe. -/
  | sprNumber
  /-- Raised by SPR 61 when BIR holds more than 5 (10_state.md R52). Safe. -/
  | breakoutIndex
  /-- Raised by SYS and INT with other constant nibbles (46_system.md R481, R482). Safe. -/
  | callNibbles
  /-- Raised by RTS with an adjustment that is no multiple of eight (40_control_transfer.md R192). Safe. -/
  | stackAdjust
  /-- Raised by MLO with a function code above 7 (43_logic_shift_bitfield.md R312). Safe. -/
  | mloFunction
  /-- Raised by a bit-field instruction with mb above me (43_logic_shift_bitfield.md R350). Safe. -/
  | bitFieldOrder
  /-- Raised by INC with O3 other than 0 or a size code above 3 (44_load_store.md R417). Safe. -/
  | incForm
  deriving DecidableEq, Repr

/-- Memory: the bytes that are not 0, by physical address, addresses strictly rising (20_memory.md R80; log 10). -/
abbrev Memory := List Host.Cell

/-- The segment registers, their limits, and the copies address formation may still use (10_state.md R36, R37). -/
structure Segments where
  base : Vector Word 8
  baseUsed : Vector Word 8
  limit : Vector Word 8
  limitUsed : Vector Word 8
  deriving DecidableEq, Repr

/-- The debug registers (10_state.md R54 to R56). -/
structure DebugRegs where
  addr : Vector Word 4
  ctrl : Word
  stat : Word
  deriving DecidableEq, Repr

/-- One TLB entry (10_state.md R58). -/
structure TlbEntry where
  virtPage : BitVec 52
  physPage : BitVec 52
  asid : BitVec 8
  g : Bool
  v : Bool
  d : Bool
  c : BitVec 3
  deriving DecidableEq, Repr

/-- The TLB: its entries (way in bits 5..3 of the number, set in bits 2..0) and its registers (10_state.md R57 to
R59). `asidReg` is the ASID holding register. -/
structure Tlb where
  entries : Vector TlbEntry 64
  enabled : Bool
  wired : BitVec 3
  index : BitVec 6
  pageSize : BitVec 3
  virtPage : Word
  physPage : Word
  asidReg : Word
  dma : Word
  ima : Word
  pta : Word
  ptc : Word
  deriving DecidableEq, Repr

/-- The clock control (10_state.md R63, 46_system.md R512). -/
structure ClockControl where
  rate : BitVec 16
  stopped : Bool
  deriving DecidableEq, Repr

/-- A byte value that stood at an address before a store and that a fetch may still see; `invalidated` when a CACHE
command has covered it and SYNC has not yet come (20_memory.md R117; log 19). -/
structure StaleByte where
  addr : Nat
  old : Byte
  invalidated : Bool
  deriving DecidableEq, Repr

/-- The input pins (60_exceptions.md R575, R576; 20_memory.md R112): reset, NMI line, interrupt request, vector bus,
the PSIG signal, and the memory system's report that the reservation is gone. -/
structure Pins where
  rst : Bool
  nmi : Bool
  irq : Bool
  vec : BitVec 8
  psig : Bool
  resvLost : Bool
  deriving DecidableEq, Repr

/-- A range of physical addresses. -/
structure Region where
  start : Nat
  size : Nat
  deriving DecidableEq, Repr

/-- Where the platform answers a bus cycle with an error (20_memory.md R90), by kind of access. -/
structure ErrorRegion where
  region : Region
  onFetch : Bool
  onRead : Bool
  onWrite : Bool
  deriving DecidableEq, Repr

/-- The platform's part of the memory map: bus errors and devices (20_memory.md R90, R99, R119; log 24). -/
structure Platform where
  busErrors : List ErrorRegion
  devices : List Region
  deriving DecidableEq, Repr

/-- The immediate prefix of the unit being executed: its constant bytes and constant bits 63..8, sign-extended
(30_encoding.md R139, R140; log 26). The model's own. -/
structure Immediate where
  bytes : Nat
  ext : BitVec 56
  deriving DecidableEq, Repr

/-- How the current unit ended: completed, by taking a synchronous exception, or in the middle of a string
instruction (60_exceptions.md R595, 45_string.md R461; log 35). The model's own. -/
inductive Progress where
  | retired
  | raised
  | repeating
  deriving DecidableEq, Repr

/-- The state of the machine: everything 10_state.md names, the environment's inputs, and three fields of the
model's own (`immPrefix`, `progress`, `clock`). -/
structure State where
  /-- General registers (R20); slot 0 is never written. -/
  regs : Vector Word 64
  /-- Code address registers (R26); slots 0 and 15 are never written. -/
  code : Vector Word 16
  /-- The copy of C12 that vectoring uses (R28). -/
  c12Used : Word
  /-- The program counter (R31). -/
  pc : Word
  /-- Predicate registers (R32). -/
  preds : Vector (BitVec 4) 16
  /-- Segment registers and limits (R36, R37). -/
  segs : Segments
  /-- The status register (R38 to R40). Its S bit 13 is a view of the mode; the backup's, 29, is 1 for kernel, and
  `State.statusRegister` shows both with their polarity (log 6). -/
  sr : BitVec 32
  /-- StatusEXL (R41). -/
  exl : BitVec 8
  /-- StatusHWI (R42). -/
  hwi : Bool
  /-- LC (R48). -/
  lc : Word
  /-- ASID (R50). -/
  asid : BitVec 8
  /-- EXC (R51). -/
  exc : Word
  /-- BIR (R52). -/
  bir : BitVec 6
  /-- TICK as last read (R47). -/
  tick : Word
  /-- Debug registers (R54 to R56). -/
  dbg : DebugRegs
  /-- The TLB (R57 to R59). -/
  tlb : Tlb
  /-- Clock control (R63). -/
  clk : ClockControl
  /-- The reserved physical address, if any (R60). -/
  reservation : Option Word
  /-- Memory (20_memory.md R80). -/
  mem : Memory
  /-- What fetches may still see of overwritten bytes (20_memory.md R117). -/
  stale : List StaleByte
  /-- The platform's map (20_memory.md R90, R119). -/
  platform : Platform
  /-- The input pins now (60_exceptions.md R575). -/
  pins : Pins
  /-- The pin samples of the steps to come; when none is left the pins stay as they are (log 22). -/
  inputs : List Pins
  /-- How many rising edges of nmi_i are not yet taken: each makes one entry (60_exceptions.md R573; log 22). DESIGN
  CHOICE: the reset input leaves them pending (log 23). -/
  nmiEdges : Nat
  /-- The model's own: the prefix of the unit being executed, none between steps (R61; log 26). -/
  immPrefix : Option Immediate
  /-- The model's own: how the current unit ended (log 35). -/
  progress : Progress
  /-- The model's own: the step counter that the free values are applied to (log 11). -/
  clock : Nat
  deriving DecidableEq, Repr

/-- A TLB entry of zeros. -/
def TlbEntry.zero : TlbEntry :=
  { virtPage := 0, physPage := 0, asid := 0, g := false, v := false, d := false, c := 0 }

/-- The C12 the model starts with: FFFFFFFFFFFF0000h, in the non-segmented area (DESIGN CHOICE, log 2). -/
def resetC12 : Word := 0xFFFFFFFFFFFF0000#64

/-- LMT_RESET: all ones, the limit that lets the most through (DESIGN CHOICE, log 5). -/
def resetLimit : Word := 0xFFFFFFFFFFFFFFFF#64

/-- SR right after reset: IM set (10_state.md R72); the other bits DESIGN CHOICE 0 (log 6). -/
def resetSr : BitVec 32 := 0x8000#32

/-- The machine right after reset (10_state.md R72, 70_reset_and_hazards.md R620 to R624). What R72 leaves
unspecified has the value the logs 1 to 11 name. -/
def State.reset : State where
  regs := Vector.replicate 64 0
  code := (Vector.replicate 16 0).set 12 resetC12
  c12Used := resetC12
  pc := Config.resetAddress
  preds := Vector.replicate 16 0
  segs :=
    { base := Vector.replicate 8 0
      baseUsed := Vector.replicate 8 0
      limit := Vector.replicate 8 resetLimit
      limitUsed := Vector.replicate 8 resetLimit }
  sr := resetSr
  exl := 0
  hwi := true
  lc := 0
  asid := 0
  exc := 0
  bir := 0
  tick := 0
  dbg := { addr := Vector.replicate 4 0, ctrl := 0, stat := 0 }
  tlb :=
    { entries := Vector.replicate 64 TlbEntry.zero
      enabled := false
      wired := 0
      index := 0
      pageSize := 0
      virtPage := 0
      physPage := 0
      asidReg := 0
      dma := 0
      ima := 0
      pta := 0
      ptc := 0 }
  clk := { rate := Config.halfRate, stopped := false }
  reservation := none
  mem := []
  stale := []
  platform := { busErrors := [], devices := [] }
  pins := { rst := false, nmi := false, irq := false, vec := 0, psig := false, resvLost := false }
  inputs := []
  nmiEdges := 0
  immPrefix := none
  progress := .retired
  clock := 0

end Sys2Proof.Machine
end

