-- ==== Sys2Proof/Syntax.lean ====
section
/-! DEFINITION. The syntax of Thor instructions: one constructor of `Instr` for each row of spec/opcode_table.json,
its operands typed by the width of their fields (30_encoding.md R143 to R155). A field the format draws as unused
(`~`) is no operand (R138). -/

namespace Sys2Proof

/-- A general register number (10_state.md R20). -/
abbrev Reg := BitVec 6

/-- A code address register number (10_state.md R26). -/
abbrev CodeReg := BitVec 4

/-- A predicate register number (10_state.md R32). -/
abbrev PredReg := BitVec 4

/-- A predicate bit number: flag `B mod 4` of predicate register `B div 4` (41_compare_predicate.md R229). -/
abbrev PredBit := BitVec 6

/-- A segment register number (10_state.md R36). -/
abbrev SegReg := BitVec 3

/-- A special purpose register number (10_state.md R44). -/
abbrev SprNum := BitVec 6

/-- The predicate conditions that read something: 2 to 11 and 13 of 10_state.md R33. -/
inductive Cond where
  | eq
  | ne
  | le
  | gt
  | ge
  | lt
  | leu
  | gtu
  | geu
  | ltu
  | sig
  deriving DecidableEq, Repr

/-- An ordinary predicate byte: 90h, 01h, or a register and a condition (10_state.md R33, 30_encoding.md R133). -/
inductive Pred where
  | never
  | always
  | test (p : PredReg) (c : Cond)
  deriving DecidableEq, Repr

/-- The four data sizes (00_scope.md R12). -/
inductive Size where
  | byte
  | char
  | half
  | word
  deriving DecidableEq, Repr

/-- The direction of a string instruction (45_string.md R460). -/
inductive Direction where
  | up
  | down
  deriving DecidableEq, Repr

/-- The instructions of spec/opcode_table.json, in the table's order. `q` is the predicate byte. -/
inductive Instr where
  -- One-byte specials and immediate prefixes (R133, R139)
  /-- BRK: the byte 00h (R480). -/
  | brk
  /-- NOP: the byte 10h (R506). -/
  | nop1
  /-- RTS: the byte 11h, short form (R193). -/
  | rts1
  /-- IMM16: prefix: constant bits 15..8 (R139). -/
  | imm16 (const : BitVec 8)
  /-- IMM24: prefix: constant bits 23..8 (R139). -/
  | imm24 (const : BitVec 16)
  /-- IMM32: prefix: constant bits 31..8 (R139). -/
  | imm32 (const : BitVec 24)
  /-- IMM40: prefix: constant bits 39..8 (R139). -/
  | imm40 (const : BitVec 32)
  /-- IMM48: prefix: constant bits 47..8 (R139). -/
  | imm48 (const : BitVec 40)
  /-- IMM56: prefix: constant bits 55..8 (R139). -/
  | imm56 (const : BitVec 48)
  /-- IMM64: prefix: constant bits 63..8 (R139). -/
  | imm64 (const : BitVec 56)
  -- Compares (41_compare_predicate.md)
  /-- TST: R224. -/
  | tst (q : Pred) (pt : PredReg) (ra : Reg)
  /-- CMP: R222. -/
  | cmp (q : Pred) (pt : PredReg) (ra rb : Reg)
  /-- CMPI: R223. -/
  | cmpi (q : Pred) (pt : PredReg) (ra : Reg) (imm : BitVec 10)
  -- Relative branch (R181)
  /-- BR: R181. -/
  | br (q : Pred) (disp : BitVec 12)
  -- Register-register arithmetic, opcode 40h (42_arithmetic.md)
  /-- ADD: R252. -/
  | add (q : Pred) (rt ra rb : Reg)
  /-- SUB: R256. -/
  | sub (q : Pred) (rt ra rb : Reg)
  /-- MUL: R260. -/
  | mul (q : Pred) (rt ra rb : Reg)
  /-- DIV: R265. -/
  | div (q : Pred) (rt ra rb : Reg)
  /-- ADDU: R254. -/
  | addu (q : Pred) (rt ra rb : Reg)
  /-- SUBU: R258. -/
  | subu (q : Pred) (rt ra rb : Reg)
  /-- MULU: R263. -/
  | mulu (q : Pred) (rt ra rb : Reg)
  /-- DIVU: R267. -/
  | divu (q : Pred) (rt ra rb : Reg)
  /-- 2ADDU: R268. -/
  | addu2 (q : Pred) (rt ra rb : Reg)
  /-- 4ADDU: R269. -/
  | addu4 (q : Pred) (rt ra rb : Reg)
  /-- 8ADDU: R270. -/
  | addu8 (q : Pred) (rt ra rb : Reg)
  /-- 16ADDU: R271. -/
  | addu16 (q : Pred) (rt ra rb : Reg)
  /-- MIN: R277. -/
  | min (q : Pred) (rt ra rb : Reg)
  /-- MAX: R278. -/
  | max (q : Pred) (rt ra rb : Reg)
  -- Opcode 41h (R486, R543)
  /-- CPUID: R486. -/
  | cpuid (q : Pred) (rt ra : Reg)
  /-- REDOR: R543, map only. -/
  | redor (q : Pred) (rt ra : Reg)
  /-- REDAND: R543, map only. -/
  | redand (q : Pred) (rt ra : Reg)
  /-- PAR: R543, map only. -/
  | par (q : Pred) (rt ra : Reg)
  -- Predicate logic, opcode 42h (R229)
  /-- PAND: R230. -/
  | pand (q : Pred) (bt ba bb : PredBit)
  /-- POR: R231. -/
  | por (q : Pred) (bt ba bb : PredBit)
  /-- PEOR: R232. -/
  | peor (q : Pred) (bt ba bb : PredBit)
  /-- PNAND: R233. -/
  | pnand (q : Pred) (bt ba bb : PredBit)
  /-- PNOR: R234. -/
  | pnor (q : Pred) (bt ba bb : PredBit)
  /-- PENOR: R235. -/
  | penor (q : Pred) (bt ba bb : PredBit)
  /-- PANDC: R236. -/
  | pandc (q : Pred) (bt ba bb : PredBit)
  /-- PORC: R237. -/
  | porc (q : Pred) (bt ba bb : PredBit)
  -- Register-immediate arithmetic (42_arithmetic.md)
  /-- BITI: R225. -/
  | biti (q : Pred) (pt : PredReg) (ra : Reg) (imm : BitVec 12)
  /-- ADDUI: short form, opcode 47h (R262). -/
  | adduiShort (q : Pred) (rt : Reg) (imm : BitVec 10)
  /-- ADDI: R253. -/
  | addi (q : Pred) (rt ra : Reg) (imm : BitVec 12)
  /-- SUBI: R257. -/
  | subi (q : Pred) (rt ra : Reg) (imm : BitVec 12)
  /-- MULI: R261. -/
  | muli (q : Pred) (rt ra : Reg) (imm : BitVec 12)
  /-- DIVI: R266. -/
  | divi (q : Pred) (rt ra : Reg) (imm : BitVec 12)
  /-- ADDUI: long form, also LEA (R255, R285). -/
  | addui (q : Pred) (rt ra : Reg) (imm : BitVec 12)
  /-- SUBUI: R259. -/
  | subui (q : Pred) (rt ra : Reg) (imm : BitVec 12)
  /-- MULUI: R264. -/
  | mului (q : Pred) (rt ra : Reg) (imm : BitVec 12)
  /-- DIVUI: R276. -/
  | divui (q : Pred) (rt ra : Reg) (imm : BitVec 12)
  -- Logic (43_logic_shift_bitfield.md)
  /-- AND: R301. -/
  | and (q : Pred) (rt ra rb : Reg)
  /-- OR: R304. -/
  | or (q : Pred) (rt ra rb : Reg)
  /-- EOR: R307. -/
  | eor (q : Pred) (rt ra rb : Reg)
  /-- NAND: R309. -/
  | nand (q : Pred) (rt ra rb : Reg)
  /-- NOR: R310. -/
  | nor (q : Pred) (rt ra rb : Reg)
  /-- ENOR: R311. -/
  | enor (q : Pred) (rt ra rb : Reg)
  /-- ANDC: R303. -/
  | andc (q : Pred) (rt ra rb : Reg)
  /-- ORC: R306. -/
  | orc (q : Pred) (rt ra rb : Reg)
  /-- MLO: R312. -/
  | mlo (q : Pred) (rt ra rb rc : Reg)
  /-- ANDI: R302. -/
  | andi (q : Pred) (rt ra : Reg) (imm : BitVec 12)
  /-- ORI: R305. -/
  | ori (q : Pred) (rt ra : Reg) (imm : BitVec 12)
  /-- EORI: R308. -/
  | eori (q : Pred) (rt ra : Reg) (imm : BitVec 12)
  -- Shifts and rotates, opcode 58h (R320)
  /-- SHL: R321. -/
  | shl (q : Pred) (rt ra rb : Reg)
  /-- SHR: R325. -/
  | shr (q : Pred) (rt ra rb : Reg)
  /-- SHLU: R323. -/
  | shlu (q : Pred) (rt ra rb : Reg)
  /-- SHRU: R327. -/
  | shru (q : Pred) (rt ra rb : Reg)
  /-- ROL: R329. -/
  | rol (q : Pred) (rt ra rb : Reg)
  /-- ROR: R331. -/
  | ror (q : Pred) (rt ra rb : Reg)
  /-- SHLI: R322. -/
  | shli (q : Pred) (rt ra : Reg) (imm : BitVec 6)
  /-- SHRI: R326. -/
  | shri (q : Pred) (rt ra : Reg) (imm : BitVec 6)
  /-- SHLUI: R324. -/
  | shlui (q : Pred) (rt ra : Reg) (imm : BitVec 6)
  /-- SHRUI: R328. -/
  | shrui (q : Pred) (rt ra : Reg) (imm : BitVec 6)
  /-- ROLI: R330. -/
  | roli (q : Pred) (rt ra : Reg) (imm : BitVec 6)
  /-- RORI: R332. -/
  | rori (q : Pred) (rt ra : Reg) (imm : BitVec 6)
  -- Scaled add immediate, load immediate, multiplex
  /-- 2ADDUI: R272. -/
  | addui2 (q : Pred) (rt ra : Reg) (imm : BitVec 12)
  /-- 4ADDUI: R273. -/
  | addui4 (q : Pred) (rt ra : Reg) (imm : BitVec 12)
  /-- 8ADDUI: R274. -/
  | addui8 (q : Pred) (rt ra : Reg) (imm : BitVec 12)
  /-- 16ADDUI: R275. -/
  | addui16 (q : Pred) (rt ra : Reg) (imm : BitVec 12)
  /-- LDI: R284. -/
  | ldi (q : Pred) (rt : Reg) (imm : BitVec 10)
  /-- MUX: R313. -/
  | mux (q : Pred) (rt ra rb rc : Reg)
  -- Floating point names of the opcode map, no format given (R545, R550)
  /-- FMAC: opcode 76h (R550). -/
  | fmac (q : Pred)
  /-- FMOV: opcode 77h, Func4 0h (R545). -/
  | fmov (q : Pred)
  /-- FTOI: opcode 77h, Func4 2h (R545). -/
  | ftoi (q : Pred)
  /-- ITOF: opcode 77h, Func4 3h (R545). -/
  | itof (q : Pred)
  /-- FNEG: opcode 77h, Func4 4h (R545). -/
  | fneg (q : Pred)
  /-- FABS: opcode 77h, Func4 5h (R545). -/
  | fabs (q : Pred)
  /-- FSIGN: opcode 77h, Func4 6h (R545). -/
  | fsign (q : Pred)
  /-- FMAN: opcode 77h, Func4 7h (R545). -/
  | fman (q : Pred)
  /-- FNABS: opcode 77h, Func4 8h (R545). -/
  | fnabs (q : Pred)
  /-- FSTAT: opcode 77h, Func4 Ch (R545). -/
  | fstat (q : Pred)
  /-- FRM: opcode 77h, Func4 Dh (R545). -/
  | frm (q : Pred)
  /-- FCMP: opcode 78h, Func6 07h (R545). -/
  | fcmp (q : Pred)
  /-- FADD: opcode 78h, Func6 08h (R545). -/
  | fadd (q : Pred)
  /-- FSUB: opcode 78h, Func6 09h (R545). -/
  | fsub (q : Pred)
  /-- FMUL: opcode 78h, Func6 0Ah (R545). -/
  | fmul (q : Pred)
  /-- FDIV: opcode 78h, Func6 0Bh (R545). -/
  | fdiv (q : Pred)
  /-- FCMPS: opcode 78h, Func6 17h (R545). -/
  | fcmps (q : Pred)
  /-- FADDS: opcode 78h, Func6 18h (R545). -/
  | fadds (q : Pred)
  /-- FSUBS: opcode 78h, Func6 19h (R545). -/
  | fsubs (q : Pred)
  /-- FMULS: opcode 78h, Func6 1Ah (R545). -/
  | fmuls (q : Pred)
  /-- FDIVS: opcode 78h, Func6 1Bh (R545). -/
  | fdivs (q : Pred)
  /-- FMOVS: opcode 79h, Func4 0h (R545). -/
  | fmovs (q : Pred)
  /-- FTOIS: opcode 79h, Func4 2h (R545). -/
  | ftois (q : Pred)
  /-- ITOFS: opcode 79h, Func4 3h (R545). -/
  | itofs (q : Pred)
  /-- FNEGS: opcode 79h, Func4 4h (R545). -/
  | fnegs (q : Pred)
  /-- FABSS: opcode 79h, Func4 5h (R545). -/
  | fabss (q : Pred)
  /-- FSIGNS: opcode 79h, Func4 6h (R545). -/
  | fsigns (q : Pred)
  /-- FMANS: opcode 79h, Func4 7h (R545). -/
  | fmans (q : Pred)
  /-- FNABSS: opcode 79h, Func4 8h (R545). -/
  | fnabss (q : Pred)
  /-- FTX: opcode 79h, Func4 Ch (R545). -/
  | ftx (q : Pred)
  /-- FCX: opcode 79h, Func4 Dh (R545). -/
  | fcx (q : Pred)
  /-- FEX: opcode 79h, Func4 Eh (R545). -/
  | fex (q : Pred)
  /-- FDX: opcode 79h, Func4 Fh (R545). -/
  | fdx (q : Pred)
  /-- FTST: shares opcode 0xh with TST (R545). -/
  | ftst (q : Pred) (pt : PredReg)
  /-- FSTST: shares opcode 0xh with TST (R545). -/
  | fstst (q : Pred) (pt : PredReg)
  /-- FSCMP: shares opcode 1xh with CMP (R545). -/
  | fscmp (q : Pred) (pt : PredReg)
  -- Loads and stores, register indirect with displacement (44_load_store.md)
  /-- LB: R381. -/
  | lb (q : Pred) (sg : SegReg) (rt ra : Reg) (disp : BitVec 9)
  /-- LBU: R382. -/
  | lbu (q : Pred) (sg : SegReg) (rt ra : Reg) (disp : BitVec 9)
  /-- LC: R383. -/
  | lc (q : Pred) (sg : SegReg) (rt ra : Reg) (disp : BitVec 9)
  /-- LCU: R384. -/
  | lcu (q : Pred) (sg : SegReg) (rt ra : Reg) (disp : BitVec 9)
  /-- LH: R385. -/
  | lh (q : Pred) (sg : SegReg) (rt ra : Reg) (disp : BitVec 9)
  /-- LHU: R386. -/
  | lhu (q : Pred) (sg : SegReg) (rt ra : Reg) (disp : BitVec 9)
  /-- LW: R387. -/
  | lw (q : Pred) (sg : SegReg) (rt ra : Reg) (disp : BitVec 9)
  /-- LFS: opcode 87h, map only (R545). -/
  | lfs (q : Pred)
  /-- LFD: opcode 88h, map only (R545). -/
  | lfd (q : Pred)
  /-- LVWAR: R415. -/
  | lvwar (q : Pred) (sg : SegReg) (rt ra : Reg) (disp : BitVec 9)
  /-- SWCR: R414. -/
  | swcr (q : Pred) (sg : SegReg) (rs ra : Reg) (disp : BitVec 9)
  /-- JCI: R200. -/
  | jci (q : Pred) (sg : SegReg) (ct : CodeReg) (ra : Reg) (disp : BitVec 9)
  /-- JHI: R200. -/
  | jhi (q : Pred) (sg : SegReg) (ct : CodeReg) (ra : Reg) (disp : BitVec 9)
  /-- JWI: R200. -/
  | jwi (q : Pred) (sg : SegReg) (ct : CodeReg) (ra : Reg) (disp : BitVec 9)
  /-- LWS: R419. -/
  | lws (q : Pred) (sg : SegReg) (spr : SprNum) (ra : Reg) (disp : BitVec 9)
  /-- LCL: R418. -/
  | lcl (q : Pred) (sg : SegReg) (tgt : BitVec 6) (ra : Reg) (disp : BitVec 9)
  /-- SB: R400. -/
  | sb (q : Pred) (sg : SegReg) (rs ra : Reg) (disp : BitVec 9)
  /-- SC: R401. -/
  | sc (q : Pred) (sg : SegReg) (rs ra : Reg) (disp : BitVec 9)
  /-- SH: R402. -/
  | sh (q : Pred) (sg : SegReg) (rs ra : Reg) (disp : BitVec 9)
  /-- SW: R403. -/
  | sw (q : Pred) (sg : SegReg) (rs ra : Reg) (disp : BitVec 9)
  /-- SFS: opcode 94h, map only (R545). -/
  | sfs (q : Pred)
  /-- SFD: opcode 95h, map only (R545). -/
  | sfd (q : Pred)
  /-- STI: R408. -/
  | sti (q : Pred) (sg : SegReg) (imm : BitVec 6) (ra : Reg) (disp : BitVec 9)
  /-- CAS: R416. -/
  | cas (q : Pred) (rt ra rb rc : Reg) (disp : BitVec 8)
  -- Memory string instructions (45_string.md)
  /-- STSET: R462; STSB, STSC, STSH, STSW (R463). -/
  | stset (q : Pred) (sg : SegReg) (sz : Size) (dir : Direction) (ra rb : Reg)
  /-- STMOV: R464. -/
  | stmov (q : Pred) (sg : SegReg) (sz : Size) (dir : Direction) (ra rb rc : Reg)
  /-- STCMP: R465. -/
  | stcmp (q : Pred) (sg : SegReg) (sz : Size) (dir : Direction) (ra rb rc : Reg)
  /-- STFND: R466. -/
  | stfnd (q : Pred) (sg : SegReg) (sz : Size) (dir : Direction) (ra rb rc : Reg)
  /-- LDIS: R493. -/
  | ldis (q : Pred) (spr : SprNum) (imm : BitVec 10)
  /-- SWS: R420. -/
  | sws (q : Pred) (sg : SegReg) (spr : SprNum) (ra : Reg) (disp : BitVec 9)
  -- CACHE, one row for each command (R498)
  /-- CACHE: Func6 0: invalidate the instruction cache. -/
  | cacheInvI (q : Pred)
  /-- CACHE: Func6 1: invalidate an instruction cache line. -/
  | cacheInvILine (q : Pred) (ra : Reg)
  /-- CACHE: Func6 32: invalidate the data cache. -/
  | cacheInvD (q : Pred)
  /-- CACHE: Func6 33: invalidate a data cache line. -/
  | cacheInvDLine (q : Pred) (ra : Reg)
  -- Jumps, returns, LOOP, SYS, INT (40_control_transfer.md, 46_system.md)
  /-- JSR: A0h, no offset (R184). -/
  | jsr3 (q : Pred) (crt cr : CodeReg)
  /-- JSR: A1h; BSR, JMP (R184 to R186). -/
  | jsr5 (q : Pred) (crt cr : CodeReg) (off : BitVec 16)
  /-- JSR: A2h; BSR, JMP (R184 to R186). -/
  | jsr6 (q : Pred) (crt cr : CodeReg) (off : BitVec 24)
  /-- RTS: A3h (R191). -/
  | rts3 (q : Pred) (cr : CodeReg) (im4 : BitVec 4)
  /-- LOOP: R182. -/
  | loop (q : Pred) (disp : BitVec 8)
  /-- SYS: R481; the nibbles are 12 and 13 in a well-formed one. -/
  | sys (q : Pred) (cr crt : CodeReg) (off : BitVec 8)
  /-- INT: R482; the nibbles are 12 and 14 in a well-formed one. -/
  | int (q : Pred) (cr crt : CodeReg) (off : BitVec 8)
  -- Register moves, counts, extensions, opcode A7h
  /-- MOV: R281. -/
  | mov (q : Pred) (rt ra : Reg)
  /-- NEG: R280. -/
  | neg (q : Pred) (rt ra : Reg)
  /-- NOT: R314. -/
  | not (q : Pred) (rt ra : Reg)
  /-- ABS: R279. -/
  | abs (q : Pred) (rt ra : Reg)
  /-- SGN: R541, map only. -/
  | sgn (q : Pred) (rt ra : Reg)
  /-- CNTLZ: R340. -/
  | cntlz (q : Pred) (rt ra : Reg)
  /-- CNTLO: R341. -/
  | cntlo (q : Pred) (rt ra : Reg)
  /-- CNTPOP: R342. -/
  | cntpop (q : Pred) (rt ra : Reg)
  /-- SXB: R343. -/
  | sxb (q : Pred) (rt ra : Reg)
  /-- SXC: R344. -/
  | sxc (q : Pred) (rt ra : Reg)
  /-- SXH: R345. -/
  | sxh (q : Pred) (rt ra : Reg)
  /-- COM: R315. -/
  | com (q : Pred) (rt ra : Reg)
  /-- ZXB: R346. -/
  | zxb (q : Pred) (rt ra : Reg)
  /-- ZXC: R347. -/
  | zxc (q : Pred) (rt ra : Reg)
  /-- ZXH: R348. -/
  | zxh (q : Pred) (rt ra : Reg)
  /-- MFSPR: R490. -/
  | mfspr (q : Pred) (rt : Reg) (spr : SprNum)
  /-- MTSPR: R491. -/
  | mtspr (q : Pred) (spr : SprNum) (ra : Reg)
  -- Bit fields, opcode AAh (R350)
  /-- BFINS: R351. -/
  | bfins (q : Pred) (rt ra : Reg) (mb me : BitVec 6)
  /-- BFSET: R353. -/
  | bfset (q : Pred) (rt ra : Reg) (mb me : BitVec 6)
  /-- BFCLR: R354. -/
  | bfclr (q : Pred) (rt ra : Reg) (mb me : BitVec 6)
  /-- BFCHG: R355. -/
  | bfchg (q : Pred) (rt ra : Reg) (mb me : BitVec 6)
  /-- BFEXTU: R357. -/
  | bfextu (q : Pred) (rt ra : Reg) (mb me : BitVec 6)
  /-- BFEXT: R356. -/
  | bfext (q : Pred) (rt ra : Reg) (mb me : BitVec 6)
  /-- BFINSI: R352. -/
  | bfinsi (q : Pred) (rt : Reg) (imm mb me : BitVec 6)
  /-- MOVS: R492. -/
  | movs (q : Pred) (sprt spr : SprNum)
  -- Volatile loads
  /-- LVB: R410. -/
  | lvb (q : Pred) (sg : SegReg) (rt ra : Reg) (disp : BitVec 9)
  /-- LVC: R411. -/
  | lvc (q : Pred) (sg : SegReg) (rt ra : Reg) (disp : BitVec 9)
  /-- LVH: R412. -/
  | lvh (q : Pred) (sg : SegReg) (rt ra : Reg) (disp : BitVec 9)
  /-- LVW: R413. -/
  | lvw (q : Pred) (sg : SegReg) (rt ra : Reg) (disp : BitVec 9)
  -- Scaled indexed loads, jumps and stores
  /-- LBX: R388. -/
  | lbx (q : Pred) (sg : SegReg) (scale : BitVec 2) (rt ra rb : Reg)
  /-- LBUX: R389. -/
  | lbux (q : Pred) (sg : SegReg) (scale : BitVec 2) (rt ra rb : Reg)
  /-- LCX: R390. -/
  | lcx (q : Pred) (sg : SegReg) (scale : BitVec 2) (rt ra rb : Reg)
  /-- LCUX: R391. -/
  | lcux (q : Pred) (sg : SegReg) (scale : BitVec 2) (rt ra rb : Reg)
  /-- LHX: R392. -/
  | lhx (q : Pred) (sg : SegReg) (scale : BitVec 2) (rt ra rb : Reg)
  /-- LHUX: R393. -/
  | lhux (q : Pred) (sg : SegReg) (scale : BitVec 2) (rt ra rb : Reg)
  /-- LWX: R394. -/
  | lwx (q : Pred) (sg : SegReg) (scale : BitVec 2) (rt ra rb : Reg)
  /-- JCIX: R201. -/
  | jcix (q : Pred) (sg : SegReg) (ct : CodeReg) (ra rb : Reg)
  /-- JHIX: R201. -/
  | jhix (q : Pred) (sg : SegReg) (ct : CodeReg) (ra rb : Reg)
  /-- JWIX: R201. -/
  | jwix (q : Pred) (sg : SegReg) (ct : CodeReg) (ra rb : Reg)
  /-- SBX: R404. -/
  | sbx (q : Pred) (sg : SegReg) (scale : BitVec 2) (rs ra rb : Reg)
  /-- SCX: R405. -/
  | scx (q : Pred) (sg : SegReg) (scale : BitVec 2) (rs ra rb : Reg)
  /-- SHX: R406. -/
  | shx (q : Pred) (sg : SegReg) (scale : BitVec 2) (rs ra rb : Reg)
  /-- SWX: R407. -/
  | swx (q : Pred) (sg : SegReg) (scale : BitVec 2) (rs ra rb : Reg)
  /-- STIX: R409. -/
  | stix (q : Pred) (scale : BitVec 2) (imm : BitVec 10) (ra rb : Reg)
  /-- INC: R417. -/
  | inc (q : Pred) (sg : SegReg) (o3 sz : BitVec 3) (ra : Reg) (disp : BitVec 9) (amt : BitVec 8)
  -- Stack names of the opcode map, no page given (R547)
  /-- PUSH: opcode C8h. -/
  | push (q : Pred)
  /-- PEA: opcode C9h. -/
  | pea (q : Pred)
  /-- POP: opcode CAh. -/
  | pop (q : Pred)
  /-- LINK: opcode CBh. -/
  | link (q : Pred)
  /-- UNLINK: opcode CCh. -/
  | unlink (q : Pred)
  -- Short LW, TLB, system
  /-- LW: D6h (R395). -/
  | lwShort (q : Pred) (sg : SegReg) (rt ra : Reg)
  /-- TLBNOP: R521. -/
  | tlbnop (q : Pred)
  /-- TLBPB: R522. -/
  | tlbpb (q : Pred)
  /-- TLBRD: R523. -/
  | tlbrd (q : Pred)
  /-- TLBWR: R524. -/
  | tlbwr (q : Pred)
  /-- TLBWI: R525. -/
  | tlbwi (q : Pred)
  /-- TLBEN: R526. -/
  | tlben (q : Pred)
  /-- TLBDIS: R527. -/
  | tlbdis (q : Pred)
  /-- TLBRDREG: R528. -/
  | tlbrdreg (q : Pred) (tn : BitVec 4) (rt : Reg)
  /-- TLBWRREG: R529. -/
  | tlbwrreg (q : Pred) (tn : BitVec 4) (rb : Reg)
  /-- TLBINV: R530. -/
  | tlbinv (q : Pred)
  /-- NOP: F1h (R506). -/
  | nop2 (q : Pred)
  /-- RTS: F2h (R192). -/
  | rts4 (q : Pred) (cr : CodeReg) (im4 : BitVec 4) (adj : BitVec 8)
  /-- RTE: R580. -/
  | rte (q : Pred)
  /-- RTI: R582. -/
  | rti (q : Pred)
  /-- BCDADD: R286. -/
  | bcdadd (q : Pred) (rt ra rb : Reg)
  /-- BCDSUB: R287. -/
  | bcdsub (q : Pred) (rt ra rb : Reg)
  /-- BCDMUL: R288. -/
  | bcdmul (q : Pred) (rt ra rb : Reg)
  /-- STP: R512. -/
  | stp (q : Pred) (imm : BitVec 16)
  /-- SYNC: R496. -/
  | sync (q : Pred)
  /-- MEMSB: R497. -/
  | memsb (q : Pred)
  /-- MEMDB: R499. -/
  | memdb (q : Pred)
  /-- CLI: R484. -/
  | cli (q : Pred)
  /-- SEI: R485. -/
  | sei (q : Pred)
  /-- RTD: R581. -/
  | rtd (q : Pred)
  /-- IMM: opcode FFh, map only (R549). -/
  | immFF (q : Pred)
  deriving DecidableEq, Repr

end Sys2Proof
end

