-- ==== Sys2Proof/Machine/Ops.lean ====
section
/-! DEFINITION. The named operations over registers and memory, address formation and its checks, taking an exception
and returning from one. -/

namespace Sys2Proof.Machine

/-- The outcome of an instruction or a step. -/
abbrev Result := Host.Outcome State Fault Refusal

/-! ### The program counter -/

/-- `a[63:32] : ((a[31:0] + d) mod 2^32)`: only the low half of a program counter moves (10_state.md R31,
40_control_transfer.md R181). -/
def addLow (a d : Word) : Word := a.extractLsb' 32 32 ++ (a.setWidth 32 + d.setWidth 32)

/-- `seq(a, n)` (10_state.md R31). -/
def seq (a : Word) (n : Nat) : Word := addLow a (BitVec.ofNat 64 n)

/-- The bytes of the unit's prefix, its first byte included (30_encoding.md R139). -/
def State.prefixBytes (s : State) : Nat :=
  match s.immPrefix with
  | some p => p.bytes + 1
  | none => 0

/-- `npc`: the address after the unit whose instruction has `len` bytes (00_scope.md R13, 30_encoding.md R139). -/
def State.npc (s : State) (len : Nat) : Word := seq s.pc (s.prefixBytes + len)

/-- `pc <- t` (00_scope.md R13). -/
def State.setPc (s : State) (t : Word) : State := { s with pc := t }

/-! ### Registers -/

/-- `x[i]`: r0 reads 0 (10_state.md R21). -/
def State.reg (s : State) (r : Reg) : Word := if r = 0 then 0 else s.regs[r.toNat]'r.isLt

/-- `x[i] <- v`: a write to r0 is discarded (10_state.md R21). -/
def State.setReg (s : State) (r : Reg) (v : Word) : State :=
  if r = 0 then s else { s with regs := s.regs.set r.toNat v r.isLt }

/-- `c[i]`: C0 reads 0, C15 reads `npc` (10_state.md R27, R29). -/
def State.codeReg (s : State) (npc : Word) (c : CodeReg) : Word :=
  if c = 0 then 0 else if c = 15 then npc else s.code[c.toNat]'c.isLt

/-- `c[i] <- v`: writes to C0 and C15 are discarded; C12 is written at once, the copy vectoring uses is not
(10_state.md R27 to R30). -/
def State.setCodeReg (s : State) (c : CodeReg) (v : Word) : State :=
  if c = 0 ∨ c = 15 then s else { s with code := s.code.set c.toNat v c.isLt }

/-- `p[i]` (10_state.md R32). -/
def State.pred (s : State) (p : PredReg) : BitVec 4 := s.preds[p.toNat]'p.isLt

/-- `p[i] <- v` (10_state.md R32). -/
def State.setPred (s : State) (p : PredReg) (v : BitVec 4) : State :=
  { s with preds := s.preds.set p.toNat v p.isLt }

/-- `pb[B]`: flag `B mod 4` of predicate register `B div 4` (41_compare_predicate.md R229). -/
def State.predBit (s : State) (b : PredBit) : Bool := (s.pred (b.extractLsb' 2 4)).getLsbD (b.toNat % 4)

/-- A predicate register with bit `i` set to `v`. -/
def withBit (p : BitVec 4) (i : Nat) (v : Bool) : BitVec 4 :=
  (p &&& ~~~(1#4 <<< i)) ||| ((if v then 1#4 else 0#4) <<< i)

/-- `pb[B] <- v`: the other three bits of the register keep their value (41_compare_predicate.md R229). -/
def State.setPredBit (s : State) (b : PredBit) (v : Bool) : State :=
  s.setPred (b.extractLsb' 2 4) (withBit (s.pred (b.extractLsb' 2 4)) (b.toNat % 4) v)

/-- SR.IM (10_state.md R38). -/
def State.interruptMask (s : State) : Bool := s.sr.getLsbD 15

/-- SR.IM <- v (46_system.md R484, R485). -/
def State.setInterruptMask (s : State) (v : Bool) : State :=
  { s with sr := (s.sr &&& ~~~(0x8000#32)) ||| (if v then 0x8000#32 else 0#32) }

/-- `kernel` (10_state.md R43, 60_exceptions.md R560); also the output port `km`. -/
def State.kernel (s : State) : Bool := s.exl != 0 || s.hwi

/-- SR as the figure draws it: bit 13 shows the mode and bit 29, its backup, the mode before the last interrupt entry,
with a polarity the source does not state (10_state.md R38, R40; log 6). No instruction reads it. -/
def State.statusRegister (s : State) : BitVec 32 :=
  (s.sr &&& ~~~(0x20002000#32)) ||| (if s.kernel == Config.sPolarity then 0x2000#32 else 0#32)
    ||| (if s.sr.getLsbD 29 == Config.sPolarity then 0x20000000#32 else 0#32)

/-! ### Predicates -/

/-- The test of a condition on a predicate register, `eq` bit 0, `lt` bit 1, `ltu` bit 2 (10_state.md R33). -/
def condHolds (c : Cond) (p : BitVec 4) (sig : Bool) : Bool :=
  let eq := p.getLsbD 0
  let lt := p.getLsbD 1
  let ltu := p.getLsbD 2
  match c with
  | .eq => eq
  | .ne => !eq
  | .le => lt || eq
  | .gt => !(lt || eq)
  | .ge => !lt
  | .lt => lt
  | .leu => ltu || eq
  | .gtu => !(ltu || eq)
  | .geu => !ltu
  | .ltu => ltu
  | .sig => sig

/-- `pred(Pn, Pc)` (10_state.md R34). -/
def State.holds (s : State) (q : Pred) : Bool :=
  match q with
  | .never => false
  | .always => true
  | .test p c => condHolds c (s.pred p) s.pins.psig

/-! ### Values that may be stale -/

/-- The old or the new value, as a free choice says; where they agree there is no choice
(70_reset_and_hazards.md R631, R632). -/
def oldOrNew {α : Type} [DecidableEq α] (seesNew : Bool) (old new : α) : α :=
  if old = new then new else if seesNew then new else old

/-- The vector table base an event uses (70_reset_and_hazards.md R631; log 17). -/
def State.vectorBase (s : State) : Word :=
  oldOrNew (Config.seesNewC12 s.clock) s.c12Used (s.code[12]'(by decide))

/-- The segment base that access number `slot` of the step uses (70_reset_and_hazards.md R632; log 18). -/
def State.segmentBase (s : State) (slot : Nat) (sg : SegReg) : Word :=
  oldOrNew (Config.seesNewSegment s.clock slot) (s.segs.baseUsed[sg.toNat]'sg.isLt) (s.segs.base[sg.toNat]'sg.isLt)

/-- The segment limit that access number `slot` of the step uses (70_reset_and_hazards.md R632; log 18). -/
def State.segmentLimit (s : State) (slot : Nat) (sg : SegReg) : Word :=
  oldOrNew (Config.seesNewLimit s.clock slot) (s.segs.limitUsed[sg.toNat]'sg.isLt) (s.segs.limit[sg.toNat]'sg.isLt)

/-! ### Exceptions (60_exceptions.md) -/

/-- Vector numbers (60_exceptions.md R585). -/
abbrev vecBreak : BitVec 8 := 0
/-- Integer overflow (R586). -/
abbrev vecOverflow : BitVec 8 := 240
/-- Integer divide by zero (R587). -/
abbrev vecDivideByZero : BitVec 8 := 241
/-- Debug (R589). -/
abbrev vecDebug : BitVec 8 := 243
/-- Segment limit, LMT (R590). -/
abbrev vecLimit : BitVec 8 := 244
/-- Privilege violation (R591). -/
abbrev vecPrivilege : BitVec 8 := 245
/-- Data TLB miss (R592). -/
abbrev vecDataMiss : BitVec 8 := 248
/-- Instruction TLB miss (R593). -/
abbrev vecFetchMiss : BitVec 8 := 249
/-- Unimplemented instruction (R594). -/
abbrev vecUnimplemented : BitVec 8 := 250
/-- Data bus error, DBE (R596). -/
abbrev vecDataBus : BitVec 8 := 251
/-- Fetch bus error (R597). -/
abbrev vecFetchBus : BitVec 8 := 252
/-- NMI (R598). -/
abbrev vecNmi : BitVec 8 := 254

/-- `vector_address(v)` where it lies in the non-segmented code area; none elsewhere (60_exceptions.md R567). -/
def State.vectorAddress (s : State) (v : BitVec 8) : Option Word :=
  let a := s.vectorBase + 16 * zext v
  if a.extractLsb' 60 4 = 15#4 then some a else none

/-- The nesting level after an entry, at most 255 (10_state.md R41). -/
def levelUp (n : BitVec 8) : BitVec 8 := if n = 255 then 255 else n + 1

/-- The nesting level after RTE or RTD, at least 0 (10_state.md R41). -/
def levelDown (n : BitVec 8) : BitVec 8 := if n = 0 then 0 else n - 1

/-- What EXC holds after an entry with vector `v` (10_state.md R51, 60_exceptions.md R611; log 38). -/
def State.causeValue (s : State) (v : BitVec 8) : Word :=
  match Config.excModel with
  | .vector => zext v
  | .anyValue => Config.excAnyValue s.clock

/-- The code address register that saves the address: DPC for the debug vector, EPC for every other
(60_exceptions.md R568, R589). -/
def linkOf (v : BitVec 8) : CodeReg := if v = vecDebug then 11 else 13

/-- `raise E(v)`: taking a synchronous exception at the unit's address, `s.pc` (60_exceptions.md R568, R569, R589). -/
def raiseException (v : BitVec 8) (s : State) : Result :=
  match s.vectorAddress v with
  | none => .refused .vectorOutsideArea
  | some t =>
    .next { s.setCodeReg (linkOf v) s.pc with
      exl := levelUp s.exl
      exc := s.causeValue v
      pc := t
      progress := .raised }

/-- The entry of SYS: the return address in EPC, the level up, EXC not written (46_system.md R481). -/
def callSystem (v : BitVec 8) (ret : Word) (s : State) : Result :=
  match s.vectorAddress v with
  | none => .refused .vectorOutsideArea
  | some t => .next { s.setCodeReg 13 ret with exl := levelUp s.exl, pc := t }

/-- The low half of SR as the backup half stores it: its S bit is the mode, 1 for kernel (10_state.md R38, R40;
log 6). -/
def backupOf (kernel : Bool) (sr : BitVec 32) : BitVec 16 :=
  (sr.setWidth 16 &&& ~~~(0x2000#16)) ||| (if kernel then 0x2000#16 else 0#16)

/-- SR on an interrupt entry from the given mode: the low half copied to the backup half, then IM set (60_exceptions.md
R572). -/
def srOnEntry (kernel : Bool) (sr : BitVec 32) : BitVec 32 := (backupOf kernel sr ++ sr.setWidth 16) ||| 0x8000#32

/-- SR on RTI: the backup half copied to the low half, then IM cleared (60_exceptions.md R582). -/
def srOnReturn (sr : BitVec 32) : BitVec 32 := (sr.extractLsb' 16 16 ++ sr.extractLsb' 16 16) &&& ~~~(0x8000#32)

/-- The entry of INT: IPC gets the instruction's own address, SR is backed up, StatusHWI set; EXC not written
(46_system.md R482, 60_exceptions.md R611). -/
def callInterrupt (v : BitVec 8) (s : State) : Result :=
  match s.vectorAddress v with
  | none => .refused .vectorOutsideArea
  | some t => .next { s.setCodeReg 14 s.pc with sr := srOnEntry s.kernel s.sr, hwi := true, pc := t }

/-- Hardware interrupt and NMI entry: the injected INT, and EXC gets the vector (60_exceptions.md R572, R573). -/
def enterInterrupt (v : BitVec 8) (s : State) : Result :=
  callInterrupt v { s with exc := s.causeValue v }

/-- RTE and RTD: the pc from a code address register and the level down (60_exceptions.md R580, R581). -/
def returnFromException (link : CodeReg) (s : State) : Result :=
  .next { s with pc := s.code[link.toNat]'link.isLt, exl := levelDown s.exl }

/-- RTI (60_exceptions.md R582). -/
def returnFromInterrupt (s : State) : Result :=
  .next { s with pc := s.code[14]'(by decide), sr := srOnReturn s.sr, hwi := false }

/-! ### Checks that may end in an exception -/

/-- The answer of a check: a value, an exception with the state it is taken from (the miss address or the debug
status already recorded), or a stop. -/
inductive Check (α : Type) where
  | ok (a : α)
  | raise (v : BitVec 8) (s : State)
  | fault (f : Fault)
  | refuse (r : Refusal)
  deriving Repr

/-- Go on with a check's value, or take its exception, or stop. -/
def Check.run {α : Type} (c : Check α) (k : α → Result) : Result :=
  match c with
  | .ok a => k a
  | .raise v s => raiseException v s
  | .fault f => .fault f
  | .refuse r => .refused r

/-- One check after another; the first that does not answer a value wins. -/
def Check.andThen {α β : Type} (c : Check α) (k : α → Check β) : Check β :=
  match c with
  | .ok a => k a
  | .raise v s => .raise v s
  | .fault f => .fault f
  | .refuse r => .refuse r

/-! ### Memory -/

/-- What a byte that memory does not list reads as: 0 (DESIGN CHOICE, log 10). -/
def unlistedByte : Byte := 0

/-- The byte at a physical address. -/
def Memory.read (m : Memory) (a : Nat) : Byte :=
  match m with
  | [] => unlistedByte
  | (k, b) :: rest => if k = a then b else Memory.read rest a

/-- `m` without an entry for `a`. -/
def Memory.erase (m : Memory) (a : Nat) : Memory :=
  match m with
  | [] => []
  | (k, b) :: rest => if k = a then rest else (k, b) :: Memory.erase rest a

/-- `m` with the entry `(a, v)`, addresses kept rising. -/
def Memory.insert (m : Memory) (a : Nat) (v : Byte) : Memory :=
  match m with
  | [] => [(a, v)]
  | (k, b) :: rest =>
    if a < k then (a, v) :: (k, b) :: rest
    else if k = a then (a, v) :: rest
    else (k, b) :: Memory.insert rest a v

/-- A byte written: an entry, or none where the byte is what an unlisted one reads as. -/
def Memory.write (m : Memory) (a : Nat) (v : Byte) : Memory :=
  if v = unlistedByte then Memory.erase m a else Memory.insert m a v

/-- Every address of `m` is above `a`. -/
def Memory.above (a : Nat) (m : Memory) : Bool := m.all fun c => decide (a < c.1)

/-- The canonical form: addresses strictly rising, no entry equal to what an unlisted byte reads as. -/
def Memory.wf (m : Memory) : Bool :=
  match m with
  | [] => true
  | (k, b) :: rest => (b != unlistedByte) && Memory.above k rest && Memory.wf rest

/-- The bytes from `a` on. -/
def Memory.readList (m : Memory) (a : Nat) : Nat → List Byte
  | 0 => []
  | n + 1 => m.read a :: Memory.readList m (a + 1) n

/-- Bytes written from `a` on. -/
def Memory.writeList (m : Memory) (a : Nat) : List Byte → Memory
  | [] => m
  | b :: bs => Memory.writeList (m.write a b) (a + 1) bs

/-! ### Bytes and words (20_memory.md R82) -/

/-- The word whose bits 7..0 are the first byte. -/
def wordOfLittle : List Byte → Word
  | [] => 0
  | b :: bs => zext b ||| (wordOfLittle bs <<< 8)

/-- The low `n` bytes of a word, bits 7..0 first. -/
def littleOfWord : Nat → Word → List Byte
  | 0, _ => []
  | n + 1, v => v.setWidth 8 :: littleOfWord n (v >>> 8)

/-- The value of a datum's bytes, lowest address first, zero-extended (R82; DATA_ENDIAN, log 47). -/
def wordOfBytes (bs : List Byte) : Word :=
  match Config.dataEndian with
  | .little => wordOfLittle bs
  | .big => wordOfLittle bs.reverse

/-- The `n` bytes of a datum, lowest address first (R82; DATA_ENDIAN, log 47). -/
def bytesOfWord (n : Nat) (v : Word) : List Byte :=
  match Config.dataEndian with
  | .little => littleOfWord n v
  | .big => (littleOfWord n v).reverse

/-! ### The platform (20_memory.md R90, R99, R119) -/

/-- An address lies in a region. -/
def inRegion (r : Region) (a : Nat) : Bool := decide (r.start ≤ a) && decide (a < r.start + r.size)

/-- A device answers at the physical address (R119; log 24). -/
def State.isDevice (s : State) (a : Nat) : Bool := s.platform.devices.any fun r => inRegion r a

/-- What a data access does: load, store, or load and store at once (CAS, INC). -/
inductive AccessKind where
  | load
  | store
  | update
  deriving DecidableEq, Repr

/-- The access reads. -/
def AccessKind.reads (k : AccessKind) : Bool := k != .store

/-- The access writes. -/
def AccessKind.writes (k : AccessKind) : Bool := k != .load

/-- `bus_error(pa, kind)` for a data access (R90). -/
def State.dataBusError (s : State) (k : AccessKind) (a : Nat) : Bool :=
  s.platform.busErrors.any fun e =>
    inRegion e.region a && ((e.onRead && k.reads) || (e.onWrite && k.writes))

/-- `bus_error(pa, fetch)` (R90). -/
def State.fetchBusError (s : State) (a : Nat) : Bool :=
  s.platform.busErrors.any fun e => inRegion e.region a && e.onFetch

/-- One byte as access number `slot` of the step reads it: a device's byte is what the environment says (R119). -/
def State.readByte (s : State) (slot a : Nat) : Byte :=
  if s.isDevice a then Config.deviceByte s.clock slot a else s.mem.read a

/-- The bytes from `a` on, as one access reads them. -/
def State.readBytes (s : State) (slot a : Nat) : Nat → List Byte
  | 0 => []
  | n + 1 => s.readByte slot a :: State.readBytes s slot (a + 1) n

/-- What fetches may still see of a byte, after a store of `new` over `old` at `a` (R117; log 19). -/
def noteStale (l : List StaleByte) (a : Nat) (old new : Byte) : List StaleByte :=
  let e : StaleByte := { addr := a, old := old, invalidated := false }
  if old = new then l else if l.contains e then l else e :: l

/-- One byte stored. A store to a device changes no memory byte (R119, 60_exceptions.md R596). -/
def State.storeByte (s : State) (a : Nat) (b : Byte) : State :=
  if s.isDevice a then s
  else { s with mem := s.mem.write a b, stale := noteStale s.stale a (s.mem.read a) b }

/-- Bytes stored from `a` on. -/
def State.storeBytes (s : State) (a : Nat) : List Byte → State
  | [] => s
  | b :: bs => State.storeBytes (s.storeByte a b) (a + 1) bs

/-! ### Segmentation and translation -/

/-- `off + (seg[63:12] : 000h)` (20_memory.md R84, R85). -/
def addSegment (base off : Word) : Word := off + (base.extractLsb' 12 52 ++ 0#12)

/-- `off[63:12] >= lmt[63:12]` (20_memory.md R86). -/
def limitFault (limit off : Word) : Bool := decide (limit.extractLsb' 12 52 ≤ off.extractLsb' 12 52)

/-- The last 4 KiB of the address space (20_memory.md R87). -/
def inLastPage (va : Word) : Bool := va.extractLsb' 12 52 == BitVec.allOnes 52

/-- A program counter value in the non-segmented code area (20_memory.md R85). -/
def nonSegmented (a : Word) : Bool := a.extractLsb' 60 4 == 15#4

/-- `fetch_va(a)` for access number `slot` of the step: CS unless the top nibble is F (20_memory.md R85). -/
def State.fetchVa (s : State) (slot : Nat) (a : Word) : Word :=
  if nonSegmented a then a else addSegment (s.segmentBase slot 7) a

/-- `s = 12 + 2N`: the page shift of page size `N` (20_memory.md R101). -/
def pageShift (n : BitVec 3) : Nat := 12 + 2 * n.toNat

/-- The set a virtual address is looked up in: the low bits of its virtual page number (20_memory.md R102). -/
def tlbSet (n : BitVec 3) (va : Word) : BitVec 3 := BitVec.ofNat 3 (va.toNat / 2 ^ pageShift n)

/-- The number of the entry in a way and a set (10_state.md R57, 46_system.md R523). -/
def tlbSlot (way set : BitVec 3) : BitVec 6 := way ++ set

/-- An entry of the TLB. -/
def State.tlbEntry (s : State) (i : BitVec 6) : TlbEntry := s.tlb.entries[i.toNat]'i.isLt

/-- The entry matches the virtual address (20_memory.md R102, R103). -/
def entryMatches (e : TlbEntry) (n : BitVec 3) (asid : BitVec 8) (va : Word) : Bool :=
  e.v && (e.virtPage.toNat / 2 ^ (2 * n.toNat) == va.toNat / 2 ^ pageShift n) && (e.g || e.asid == asid)

/-- The entries of the address's set that match it, by way (20_memory.md R102). -/
def State.tlbHits (s : State) (va : Word) : List (BitVec 6) :=
  ((List.range 8).map fun w => tlbSlot (BitVec.ofNat 3 w) (tlbSet s.tlb.pageSize va)).filter fun i =>
    entryMatches (s.tlbEntry i) s.tlb.pageSize s.asid va

/-- `PhysPage[51:2N] : va[s-1:0]` (20_memory.md R102). -/
def physicalOf (e : TlbEntry) (n : BitVec 3) (va : Word) : Word :=
  BitVec.ofNat 64 (e.physPage.toNat / 2 ^ (2 * n.toNat) * 2 ^ pageShift n + va.toNat % 2 ^ pageShift n)

/-- A physical address and the TLB entry it came through, if any. -/
structure Phys where
  pa : Word
  entry : Option (BitVec 6)
  deriving DecidableEq, Repr

/-- The answer of a translation (20_memory.md R89, R101, R102). -/
inductive Translation where
  | hit (p : Phys)
  | miss
  | undefinedSize
  | multiple
  deriving DecidableEq, Repr

/-- Translation of a segmented address (20_memory.md R89, R101, R102). -/
def State.translate (s : State) (va : Word) : Translation :=
  if s.tlb.enabled then
    if 5 ≤ s.tlb.pageSize.toNat then .undefinedSize
    else
      match s.tlbHits va with
      | [] => .miss
      | [i] => .hit { pa := physicalOf (s.tlbEntry i) s.tlb.pageSize va, entry := some i }
      | _ => .multiple
  else .hit { pa := va, entry := none }

/-- The access goes through a page that is not cached: C is 001b (20_memory.md R105). -/
def State.uncached (s : State) (p : Phys) : Bool :=
  match p.entry with
  | none => false
  | some i => (s.tlbEntry i).c == 1#3

/-- The first data miss is recorded: only when DMA is zero (20_memory.md R104). -/
def State.recordDataMiss (s : State) (va : Word) : State :=
  if s.tlb.dma = 0 then { s with tlb := { s.tlb with dma := va } } else s

/-- The first fetch miss is recorded: only when IMA is zero (20_memory.md R104). -/
def State.recordFetchMiss (s : State) (va : Word) : State :=
  if s.tlb.ima = 0 then { s with tlb := { s.tlb with ima := va } } else s

/-- The dirty bit of the entry a write went through (20_memory.md R93). -/
def State.setDirty (s : State) (entry : Option (BitVec 6)) : State :=
  match entry with
  | none => s
  | some i =>
    { s with tlb := { s.tlb with entries := s.tlb.entries.set i.toNat { s.tlbEntry i with d := true } i.isLt } }

/-! ### Debug matching (60_exceptions.md R595) -/

/-- DBAD n is enabled (10_state.md R55). -/
def debugEnabled (ctrl : Word) (n : Nat) : Bool := ctrl.getLsbD n

/-- The match type of DBAD n (10_state.md R55). -/
def debugType (ctrl : Word) (n : Nat) : BitVec 2 := ctrl.extractLsb' (16 + 4 * n) 2

/-- How many low address bits a data match ignores (10_state.md R55). -/
def debugSize (ctrl : Word) (n : Nat) : Nat := (ctrl.extractLsb' (18 + 4 * n) 2).toNat

/-- Data match of DBAD n (60_exceptions.md R595). -/
def debugDataMatch (d : DebugRegs) (k : AccessKind) (va : Word) (n : Fin 4) : Bool :=
  debugEnabled d.ctrl n
    && ((debugType d.ctrl n == 1#2 && k.writes) || debugType d.ctrl n == 3#2)
    && (d.addr[n] >>> debugSize d.ctrl n == va >>> debugSize d.ctrl n)

/-- Instruction match of DBAD n (60_exceptions.md R595). -/
def debugFetchMatch (d : DebugRegs) (va : Word) (n : Fin 4) : Bool :=
  debugEnabled d.ctrl n && debugType d.ctrl n == 0#2 && d.addr[n] == va

/-- The status bits of the registers that match (10_state.md R56). -/
def debugHits (hit : Fin 4 → Bool) : Word :=
  (if hit 0 then 1#64 else 0#64) ||| (if hit 1 then 2#64 else 0#64)
    ||| (if hit 2 then 4#64 else 0#64) ||| (if hit 3 then 8#64 else 0#64)

/-- `DBSTAT[n] <- 1` for every matching n (60_exceptions.md R595). -/
def State.setDebugStatus (s : State) (hits : Word) : State :=
  { s with dbg := { s.dbg with stat := s.dbg.stat ||| hits } }

/-! ### Data accesses (20_memory.md R91 to R93) -/

/-- The checks after translation: debug match, then bus error (20_memory.md R91). -/
def dataPhysCheck (s : State) (k : AccessKind) (va : Word) (p : Phys) : Check Phys :=
  let hits := debugHits (debugDataMatch s.dbg k va)
  if hits ≠ 0 then .raise vecDebug (s.setDebugStatus hits)
  else if s.dataBusError k p.pa.toNat then .raise vecDataBus s
  else .ok p

/-- The checks of one data access, in the order of 20_memory.md R91: misalignment, segment limit, (the unreachable
page, R87; log 30,) TLB, debug match, bus error. `slot` numbers the access in the step. -/
def dataCheck (s : State) (k : AccessKind) (slot : Nat) (sg : SegReg) (off : Word) (n : Nat) : Check Phys :=
  let va := addSegment (s.segmentBase slot sg) off
  if va.toNat % n ≠ 0 then .refuse .misaligned
  else if limitFault (s.segmentLimit slot sg) off then .raise vecLimit s
  else if inLastPage va then .fault .unreachablePage
  else
    match s.translate va with
    | .undefinedSize => .refuse .tlbPageSize
    | .multiple => .refuse .tlbMultipleHit
    | .miss => .raise vecDataMiss (s.recordDataMiss va)
    | .hit p => dataPhysCheck s k va p

/-- The value of `n` bytes at a physical address, zero-extended. -/
def State.loadValue (s : State) (slot : Nat) (p : Phys) (n : Nat) : Word :=
  wordOfBytes (s.readBytes slot p.pa.toNat n)

/-- `n` bytes stored at a physical address, and the dirty bit set (20_memory.md R93). -/
def State.storeValue (s : State) (p : Phys) (n : Nat) (v : Word) : State :=
  (s.storeBytes p.pa.toNat (bytesOfWord n v)).setDirty p.entry

/-- `MemRead(sg, off, n)` (20_memory.md R92). Volatile or not is no difference in a one-core model (log 20). -/
def memRead (s : State) (slot : Nat) (sg : SegReg) (off : Word) (n : Nat) (k : Word → Result) : Result :=
  (dataCheck s .load slot sg off n).run fun p => k (s.loadValue slot p n)

/-- `MemWrite(sg, off, n, v)` (20_memory.md R93). -/
def memWrite (s : State) (slot : Nat) (sg : SegReg) (off : Word) (n : Nat) (v : Word) (k : State → Result) : Result :=
  (dataCheck s .store slot sg off n).run fun p => k (s.storeValue p n v)

/-! ### What every instruction does first -/

/-- r28 to r31 (10_state.md R23). -/
def kernelOnly (r : Reg) : Bool := decide (28 ≤ r.toNat) && decide (r.toNat ≤ 31)

/-- The registers an instruction names may be named in the current mode (10_state.md R23). -/
def State.allows (s : State) (rs : List Reg) : Bool := s.kernel || rs.all fun r => !kernelOnly r

/-- An instruction of `len` bytes under its predicate: a false one is skipped (10_state.md R34, 30_encoding.md R135);
under a true one the registers `rs` it names are checked (10_state.md R23). -/
def guarded (q : Pred) (len : Nat) (rs : List Reg) (s : State) (k : Word → Result) : Result :=
  if s.holds q then
    if s.allows rs then k (s.npc len) else .refused .kernelOnlyRegister
  else .next (s.setPc (s.npc len))

/-- A kernel-only instruction: Privilege(245) in application mode (60_exceptions.md R591). -/
def privileged (s : State) (k : Result) : Result := if s.kernel then k else raiseException vecPrivilege s

/-- `x[rt] <- v; pc <- npc`. -/
def finishReg (rt : Reg) (v npc : Word) (s : State) : Result := .next ((s.setReg rt v).setPc npc)

end Sys2Proof.Machine
end

