-- ==== Sys2Proof/Machine/Operands.lean ====
section
/-! DEFINITION. The operand forms: assembled constants, address offsets, and the shapes that instructions of one format
share (30_encoding.md R140, R142; 20_memory.md R83). -/

namespace Sys2Proof.Machine

/-! ### Constants -/

/-- `imm` of a sign-extended constant field: with a prefix the field gives bits 7..0 and the prefix the rest
(30_encoding.md R140). -/
def State.imm {w : Nat} (s : State) (f : BitVec w) : Word :=
  match s.immPrefix with
  | none => sext f
  | some p => p.ext ++ f.setWidth 8

/-- The offset of JSR: unprefixed, zero-extended, or sign-extended when Cr is 15 (40_control_transfer.md R184,
R185). -/
def State.jumpOffset {w : Nat} (s : State) (cr : CodeReg) (f : BitVec w) : Word :=
  match s.immPrefix with
  | none => if cr = 15 then sext f else zext f
  | some p => p.ext ++ f.setWidth 8

/-! ### Offsets -/

/-- `off_disp` (20_memory.md R83). -/
def State.offDisp {w : Nat} (s : State) (ra : Reg) (disp : BitVec w) : Word := s.reg ra + s.imm disp

/-- `off_index`: scale 1, 2, 4 or 8 (20_memory.md R83). -/
def State.offIndex (s : State) (ra rb : Reg) (sc : BitVec 2) : Word :=
  s.reg ra + s.reg rb * BitVec.ofNat 64 (2 ^ sc.toNat)

/-- The bytes of an element (45_string.md R460, 44_load_store.md R417). -/
def sizeBytes (sz : Size) : Nat :=
  match sz with
  | .byte => 1
  | .char => 2
  | .half => 4
  | .word => 8

/-- `d * n`: what an element moves the index by (45_string.md R460). -/
def elementStep (sz : Size) (dir : Direction) : Word :=
  match dir with
  | .up => BitVec.ofNat 64 (sizeBytes sz)
  | .down => 0 - BitVec.ofNat 64 (sizeBytes sz)

/-- The low `n` bytes of a word, zero-extended. -/
def lowBytes (n : Nat) (v : Word) : Word := BitVec.ofNat 64 (v.toNat % 2 ^ (8 * n))

/-! ### Shapes -/

/-- An instruction of `len` bytes that writes one general register and does nothing else. -/
def writeReg (q : Pred) (len : Nat) (named : List Reg) (rt : Reg) (v : Word) (s : State) : Result :=
  guarded q len named s fun npc => finishReg rt v npc s

/-- An instruction of `len` bytes that writes one predicate register and does nothing else. -/
def writePred (q : Pred) (len : Nat) (named : List Reg) (pt : PredReg) (v : BitVec 4) (s : State) : Result :=
  guarded q len named s fun npc => .next ((s.setPred pt v).setPc npc)

/-- A load into a general register; into r0 it is a prefetch, without exception or refusal (20_memory.md R96,
44_load_store.md R379, R380). -/
def loadReg (q : Pred) (len : Nat) (named : List Reg) (sg : SegReg) (off : Word) (n : Nat) (extend : Word → Word)
    (rt : Reg) (s : State) : Result :=
  guarded q len named s fun npc =>
    if rt = 0 then .next (s.setPc npc)
    else memRead s 0 sg off n fun v => finishReg rt (extend v) npc s

/-- A store of the low `n` bytes of `v` (44_load_store.md R380). -/
def storeWord (q : Pred) (len : Nat) (named : List Reg) (sg : SegReg) (off : Word) (n : Nat) (v : Word)
    (s : State) : Result :=
  guarded q len named s fun npc => memWrite s 0 sg off n v fun t => .next (t.setPc npc)

/-- A jump through memory: the read, the link, the target (40_control_transfer.md R200, R201). -/
def jumpThrough (q : Pred) (named : List Reg) (sg : SegReg) (ct : CodeReg) (off : Word) (n : Nat)
    (target : Word → Word → Word) (s : State) : Result :=
  guarded q 5 named s fun npc =>
    memRead s 0 sg off n fun m => .next ((s.setCodeReg ct npc).setPc (target npc m))

/-- Sign extension of a byte, a character or a half-word that a load delivers zero-extended. -/
def extendByte (v : Word) : Word := sext (v.setWidth 8)
/-- The same for 16 bits. -/
def extendChar (v : Word) : Word := sext (v.setWidth 16)
/-- The same for 32 bits. -/
def extendHalf (v : Word) : Word := sext (v.setWidth 32)

end Sys2Proof.Machine
end

