-- ==== Sys2Proof/Machine/Flags.lean ====
section
/-! DEFINITION. What the compares write into a predicate register, and when a signed result does not fit
(41_compare_predicate.md, 42_arithmetic.md R251). -/

namespace Sys2Proof.Machine

/-- The four bits of a predicate register: bit 3 is 0, `ltu` bit 2, `lt` bit 1, `eq` bit 0 (10_state.md R32,
41_compare_predicate.md R221). -/
def predValue (eq lt ltu : Bool) : BitVec 4 :=
  (if ltu then 4#4 else 0#4) ||| (if lt then 2#4 else 0#4) ||| (if eq then 1#4 else 0#4)

/-- The flags of CMP and CMPI (41_compare_predicate.md R222, R223). -/
def compareFlags (a b : Word) : BitVec 4 := predValue (a == b) (a.slt b) (a.ult b)

/-- The flags of TST (41_compare_predicate.md R224). -/
def testFlags (a : Word) : BitVec 4 := predValue (a == 0) (a.slt 0) false

/-- The flags of BITI: zero, negative, odd (41_compare_predicate.md R225). -/
def bitFlags (r : Word) : BitVec 4 := predValue (r == 0) r.msb (r.getLsbD 0)

/-- The exact result is representable in 64-bit two's complement (42_arithmetic.md R251). -/
def fitsSigned (r : Int) : Bool := decide (-(2 ^ 63) ≤ r) && decide (r < 2 ^ 63)

/-- An instruction whose exact signed result is written, or raises Overflow(240) (42_arithmetic.md R251). -/
def writeExact (q : Pred) (len : Nat) (named : List Reg) (rt : Reg) (r : Int) (s : State) : Result :=
  guarded q len named s fun npc =>
    if fitsSigned r then finishReg rt (BitVec.ofInt 64 r) npc s else raiseException vecOverflow s

/-- A signed division: by zero raises 241, MIN / -1 raises 240 under DIV_OVERFLOW_TRAPS, the quotient is truncated
toward zero (42_arithmetic.md R265). -/
def writeQuotient (q : Pred) (len : Nat) (named : List Reg) (rt : Reg) (a b : Word) (s : State) : Result :=
  guarded q len named s fun npc =>
    if b = 0 then raiseException vecDivideByZero s
    else if Config.divOverflowTraps && !fitsSigned (a.toInt.tdiv b.toInt) then raiseException vecOverflow s
    else finishReg rt (BitVec.ofInt 64 (a.toInt.tdiv b.toInt)) npc s

/-- The quotient of DIVU and DIVUI; by zero a free value (42_arithmetic.md R267; log 12). -/
def unsignedQuotient (s : State) (a b : Word) : Word :=
  if b = 0 then Config.divuByZero s.clock a else BitVec.ofNat 64 (a.toNat / b.toNat)

end Sys2Proof.Machine
end

