-- ==== Sys2Proof/Machine/Arith.lean ====
section
/-! DEFINITION. Integer and BCD arithmetic, CPUID (42_arithmetic.md, 46_system.md R486, R487). -/

namespace Sys2Proof.Machine

/-! ### Addition and subtraction -/

/-- ADD (42_arithmetic.md R252). -/
def execAdd (q : Pred) (rt ra rb : Reg) (s : State) : Result :=
  writeExact q 5 [rt, ra, rb] rt ((s.reg ra).toInt + (s.reg rb).toInt) s

/-- ADDI (R253). -/
def execAddi (q : Pred) (rt ra : Reg) (imm : BitVec 12) (s : State) : Result :=
  writeExact q 5 [rt, ra] rt ((s.reg ra).toInt + (s.imm imm).toInt) s

/-- ADDU (R254). -/
def execAddu (q : Pred) (rt ra rb : Reg) (s : State) : Result :=
  writeReg q 5 [rt, ra, rb] rt (s.reg ra + s.reg rb) s

/-- ADDUI, long form; LEA is the same encoding (R255, R285). -/
def execAddui (q : Pred) (rt ra : Reg) (imm : BitVec 12) (s : State) : Result :=
  writeReg q 5 [rt, ra] rt (s.reg ra + s.imm imm) s

/-- ADDUI, short form (R262). -/
def execAdduiShort (q : Pred) (rt : Reg) (imm : BitVec 10) (s : State) : Result :=
  writeReg q 4 [rt] rt (s.reg rt + s.imm imm) s

/-- SUB (R256). -/
def execSub (q : Pred) (rt ra rb : Reg) (s : State) : Result :=
  writeExact q 5 [rt, ra, rb] rt ((s.reg ra).toInt - (s.reg rb).toInt) s

/-- SUBI (R257). -/
def execSubi (q : Pred) (rt ra : Reg) (imm : BitVec 12) (s : State) : Result :=
  writeExact q 5 [rt, ra] rt ((s.reg ra).toInt - (s.imm imm).toInt) s

/-- SUBU (R258). -/
def execSubu (q : Pred) (rt ra rb : Reg) (s : State) : Result :=
  writeReg q 5 [rt, ra, rb] rt (s.reg ra - s.reg rb) s

/-- SUBUI (R259). -/
def execSubui (q : Pred) (rt ra : Reg) (imm : BitVec 12) (s : State) : Result :=
  writeReg q 5 [rt, ra] rt (s.reg ra - s.imm imm) s

/-! ### Scaled add -/

/-- 2ADDU (R268). -/
def execAddu2 (q : Pred) (rt ra rb : Reg) (s : State) : Result :=
  writeReg q 5 [rt, ra, rb] rt (s.reg ra * 2 + s.reg rb) s

/-- 2ADDUI (R272). -/
def execAddui2 (q : Pred) (rt ra : Reg) (imm : BitVec 12) (s : State) : Result :=
  writeReg q 5 [rt, ra] rt (s.reg ra * 2 + s.imm imm) s

/-- 4ADDU (R269). -/
def execAddu4 (q : Pred) (rt ra rb : Reg) (s : State) : Result :=
  writeReg q 5 [rt, ra, rb] rt (s.reg ra * 4 + s.reg rb) s

/-- 4ADDUI (R273). -/
def execAddui4 (q : Pred) (rt ra : Reg) (imm : BitVec 12) (s : State) : Result :=
  writeReg q 5 [rt, ra] rt (s.reg ra * 4 + s.imm imm) s

/-- 8ADDU (R270). -/
def execAddu8 (q : Pred) (rt ra rb : Reg) (s : State) : Result :=
  writeReg q 5 [rt, ra, rb] rt (s.reg ra * 8 + s.reg rb) s

/-- 8ADDUI (R274). -/
def execAddui8 (q : Pred) (rt ra : Reg) (imm : BitVec 12) (s : State) : Result :=
  writeReg q 5 [rt, ra] rt (s.reg ra * 8 + s.imm imm) s

/-- 16ADDU (R271). -/
def execAddu16 (q : Pred) (rt ra rb : Reg) (s : State) : Result :=
  writeReg q 5 [rt, ra, rb] rt (s.reg ra * 16 + s.reg rb) s

/-- 16ADDUI (R275). -/
def execAddui16 (q : Pred) (rt ra : Reg) (imm : BitVec 12) (s : State) : Result :=
  writeReg q 5 [rt, ra] rt (s.reg ra * 16 + s.imm imm) s

/-! ### Multiply and divide -/

/-- MUL (R260). -/
def execMul (q : Pred) (rt ra rb : Reg) (s : State) : Result :=
  writeExact q 5 [rt, ra, rb] rt ((s.reg ra).toInt * (s.reg rb).toInt) s

/-- MULI (R261). -/
def execMuli (q : Pred) (rt ra : Reg) (imm : BitVec 12) (s : State) : Result :=
  writeExact q 5 [rt, ra] rt ((s.reg ra).toInt * (s.imm imm).toInt) s

/-- MULU (R263). -/
def execMulu (q : Pred) (rt ra rb : Reg) (s : State) : Result :=
  writeReg q 5 [rt, ra, rb] rt (s.reg ra * s.reg rb) s

/-- MULUI (R264). -/
def execMului (q : Pred) (rt ra : Reg) (imm : BitVec 12) (s : State) : Result :=
  writeReg q 5 [rt, ra] rt (s.reg ra * s.imm imm) s

/-- DIV (R265). -/
def execDiv (q : Pred) (rt ra rb : Reg) (s : State) : Result :=
  writeQuotient q 5 [rt, ra, rb] rt (s.reg ra) (s.reg rb) s

/-- DIVI (R266). -/
def execDivi (q : Pred) (rt ra : Reg) (imm : BitVec 12) (s : State) : Result :=
  writeQuotient q 5 [rt, ra] rt (s.reg ra) (s.imm imm) s

/-- DIVU (R267). -/
def execDivu (q : Pred) (rt ra rb : Reg) (s : State) : Result :=
  writeReg q 5 [rt, ra, rb] rt (unsignedQuotient s (s.reg ra) (s.reg rb)) s

/-- DIVUI (R276). -/
def execDivui (q : Pred) (rt ra : Reg) (imm : BitVec 12) (s : State) : Result :=
  writeReg q 5 [rt, ra] rt (unsignedQuotient s (s.reg ra) (s.imm imm)) s

/-! ### Minimum, maximum, absolute value, negate, move, load immediate -/

/-- MIN, signed (R277). -/
def execMin (q : Pred) (rt ra rb : Reg) (s : State) : Result :=
  writeReg q 5 [rt, ra, rb] rt (if (s.reg ra).slt (s.reg rb) then s.reg ra else s.reg rb) s

/-- MAX, signed (R278). -/
def execMax (q : Pred) (rt ra rb : Reg) (s : State) : Result :=
  writeReg q 5 [rt, ra, rb] rt (if (s.reg ra).slt (s.reg rb) then s.reg rb else s.reg ra) s

/-- ABS (R279). -/
def execAbs (q : Pred) (rt ra : Reg) (s : State) : Result :=
  writeReg q 4 [rt, ra] rt (if (s.reg ra).slt 0 then 0 - s.reg ra else s.reg ra) s

/-- NEG (R280). -/
def execNeg (q : Pred) (rt ra : Reg) (s : State) : Result :=
  writeReg q 4 [rt, ra] rt (0 - s.reg ra) s

/-- MOV (R281). -/
def execMov (q : Pred) (rt ra : Reg) (s : State) : Result :=
  writeReg q 4 [rt, ra] rt (s.reg ra) s

/-- LDI (R284). -/
def execLdi (q : Pred) (rt : Reg) (imm : BitVec 10) (s : State) : Result :=
  writeReg q 4 [rt] rt (s.imm imm) s

/-! ### BCD -/

/-- Both digits of the low byte are 0 to 9 (R286). -/
def bcdValid (v : Word) : Bool := decide (v.toNat % 16 ≤ 9) && decide (v.toNat / 16 % 16 ≤ 9)

/-- `bcd2` of the low byte (R286). -/
def bcdValue (v : Word) : Nat := 10 * (v.toNat / 16 % 16) + v.toNat % 16

/-- Four decimal digits, units in bits 3..0 (R286, R288). -/
def bcdDigits (n : Nat) : Word :=
  BitVec.ofNat 64 (n / 1000 % 10 * 4096 + n / 100 % 10 * 256 + n / 10 % 10 * 16 + n % 10)

/-- A BCD result; a free value where a digit is above 9 (R286; log 13). -/
def bcdResult (s : State) (a b : Word) (n : Nat) : Word :=
  if bcdValid a && bcdValid b then bcdDigits n else Config.bcdInvalid s.clock

/-- BCDADD (R286). -/
def execBcdadd (q : Pred) (rt ra rb : Reg) (s : State) : Result :=
  writeReg q 5 [rt, ra, rb] rt (bcdResult s (s.reg ra) (s.reg rb) ((bcdValue (s.reg ra) + bcdValue (s.reg rb)) % 100)) s

/-- BCDSUB (R287). -/
def execBcdsub (q : Pred) (rt ra rb : Reg) (s : State) : Result :=
  writeReg q 5 [rt, ra, rb] rt
    (bcdResult s (s.reg ra) (s.reg rb) ((bcdValue (s.reg ra) + (100 - bcdValue (s.reg rb))) % 100)) s

/-- BCDMUL (R288). -/
def execBcdmul (q : Pred) (rt ra rb : Reg) (s : State) : Result :=
  writeReg q 5 [rt, ra, rb] rt (bcdResult s (s.reg ra) (s.reg rb) (bcdValue (s.reg ra) * bcdValue (s.reg rb))) s

/-! ### CPUID -/

/-- The CPUID table (46_system.md R487); an unlisted row is a free value (log 14). -/
def cpuidRow (s : State) (index : Word) : Word :=
  match index.toNat with
  | 0 => zext Config.corenum
  | 2 => 0x6E6F7274696E6946#64
  | 3 => 0
  | 4 => 0x0053537469423436#64
  | 5 => 0
  | 6 => 0x00000000726F6854#64
  | 7 => 0
  | 8 => 0x000000000000314D#64
  | 9 => 0x0000000034333231#64
  | 10 => Config.cpuidFeatures
  | 11 => 0x0000400000008000#64
  | _ => Config.cpuidUnlisted s.clock index

/-- CPUID (46_system.md R486). -/
def execCpuid (q : Pred) (rt ra : Reg) (s : State) : Result :=
  writeReg q 4 [rt, ra] rt (cpuidRow s (s.reg ra)) s

end Sys2Proof.Machine
end

