-- ==== Sys2Proof/Machine/Compare.lean ====
section
/-! DEFINITION. Compares and predicate logic (41_compare_predicate.md). -/

namespace Sys2Proof.Machine

/-- CMP (41_compare_predicate.md R222). -/
def execCmp (q : Pred) (pt : PredReg) (ra rb : Reg) (s : State) : Result :=
  writePred q 4 [ra, rb] pt (compareFlags (s.reg ra) (s.reg rb)) s

/-- CMPI (R223). -/
def execCmpi (q : Pred) (pt : PredReg) (ra : Reg) (imm : BitVec 10) (s : State) : Result :=
  writePred q 4 [ra] pt (compareFlags (s.reg ra) (s.imm imm)) s

/-- TST (R224). -/
def execTst (q : Pred) (pt : PredReg) (ra : Reg) (s : State) : Result :=
  writePred q 3 [ra] pt (testFlags (s.reg ra)) s

/-- BITI (R225). -/
def execBiti (q : Pred) (pt : PredReg) (ra : Reg) (imm : BitVec 12) (s : State) : Result :=
  writePred q 5 [ra] pt (bitFlags (s.reg ra &&& s.imm imm)) s

/-- An instruction that writes one predicate bit (R229). -/
def writePredBit (q : Pred) (bt : PredBit) (v : Bool) (s : State) : Result :=
  guarded q 5 [] s fun npc => .next ((s.setPredBit bt v).setPc npc)

/-- PAND (R230). -/
def execPand (q : Pred) (bt ba bb : PredBit) (s : State) : Result :=
  writePredBit q bt (s.predBit ba && s.predBit bb) s

/-- POR (R231). -/
def execPor (q : Pred) (bt ba bb : PredBit) (s : State) : Result :=
  writePredBit q bt (s.predBit ba || s.predBit bb) s

/-- PEOR (R232). -/
def execPeor (q : Pred) (bt ba bb : PredBit) (s : State) : Result :=
  writePredBit q bt (s.predBit ba ^^ s.predBit bb) s

/-- PNAND (R233). -/
def execPnand (q : Pred) (bt ba bb : PredBit) (s : State) : Result :=
  writePredBit q bt (!(s.predBit ba && s.predBit bb)) s

/-- PNOR (R234). -/
def execPnor (q : Pred) (bt ba bb : PredBit) (s : State) : Result :=
  writePredBit q bt (!(s.predBit ba || s.predBit bb)) s

/-- PENOR (R235). -/
def execPenor (q : Pred) (bt ba bb : PredBit) (s : State) : Result :=
  writePredBit q bt (!(s.predBit ba ^^ s.predBit bb)) s

/-- PANDC (R236). -/
def execPandc (q : Pred) (bt ba bb : PredBit) (s : State) : Result :=
  writePredBit q bt (s.predBit ba && !s.predBit bb) s

/-- PORC (R237). -/
def execPorc (q : Pred) (bt ba bb : PredBit) (s : State) : Result :=
  writePredBit q bt (s.predBit ba || !s.predBit bb) s

end Sys2Proof.Machine
end

