-- ==== Sys2Proof/WellFormed.lean ====
section
/-! DEFINITION. Well-formedness: the checks on an instruction's fields that the spec makes by themselves, without the
machine's state. An ill-formed instruction can be encoded; its meaning refuses it by name when its predicate holds
(log 48). -/

namespace Sys2Proof

/-- The special purpose register numbers the MFSPR page lists: all but 54 to 58, 62 and 63 (10_state.md R44, R53). -/
def sprListed (n : SprNum) : Bool :=
  !((54 ≤ n.toNat && n.toNat ≤ 58) || n.toNat == 62 || n.toNat == 63)

/-- The TLB register numbers that are listed: 0 to 5 and 7 to 11 (10_state.md R57). -/
def tlbRegListed (n : BitVec 4) : Bool := n.toNat ≤ 11 && n.toNat != 6

/-- The two constant nibbles of SYS: 12 and 13 (46_system.md R481). -/
def sysNibbles (cr crt : CodeReg) : Bool := cr == 12 && crt == 13

/-- The two constant nibbles of INT: 12 and 14 (46_system.md R482). -/
def intNibbles (cr crt : CodeReg) : Bool := cr == 12 && crt == 14

/-- The stack adjustment of RTS is a multiple of eight (40_control_transfer.md R192). -/
def adjustAligned (adj : BitVec 8) : Bool := adj.toNat % 8 == 0

/-- A bit field begins at or below its end (43_logic_shift_bitfield.md R350). -/
def fieldOrdered (mb me : BitVec 6) : Bool := mb.toNat ≤ me.toNat

/-- INC has O3 = 0 and a size code 0 to 3 (44_load_store.md R417). -/
def incFormListed (o3 sz : BitVec 3) : Bool := o3 == 0 && sz.toNat ≤ 3

/-- The spec gives the instruction's fields a meaning. A name that stands in the opcode map only has none
(47_map_only.md R540). -/
def wellFormed (i : Instr) : Bool :=
  match i with
  | .sys _ cr crt _ => sysNibbles cr crt
  | .int _ cr crt _ => intNibbles cr crt
  | .rts4 _ _ _ adj => adjustAligned adj
  | .inc _ _ o3 sz _ _ _ => incFormListed o3 sz
  | .mfspr _ _ spr => sprListed spr
  | .mtspr _ spr _ => sprListed spr
  | .ldis _ spr _ => sprListed spr
  | .lws _ _ spr _ _ => sprListed spr
  | .sws _ _ spr _ _ => sprListed spr
  | .movs _ sprt spr => sprListed sprt && sprListed spr
  | .tlbrdreg _ tn _ => tlbRegListed tn
  | .tlbwrreg _ tn _ => tlbRegListed tn
  | .bfins _ _ _ mb me => fieldOrdered mb me
  | .bfset _ _ _ mb me => fieldOrdered mb me
  | .bfclr _ _ _ mb me => fieldOrdered mb me
  | .bfchg _ _ _ mb me => fieldOrdered mb me
  | .bfextu _ _ _ mb me => fieldOrdered mb me
  | .bfext _ _ _ mb me => fieldOrdered mb me
  | .bfinsi _ _ _ mb me => fieldOrdered mb me
  | .redor .. | .redand .. | .par .. | .sgn .. | .fmac .. | .ftst .. | .fstst .. | .fscmp .. | .lfs ..
  | .lfd .. | .sfs .. | .sfd .. | .immFF .. | .fmov .. | .ftoi .. | .itof .. | .fneg .. | .fabs .. | .fsign ..
  | .fman .. | .fnabs .. | .fstat .. | .frm .. | .fcmp .. | .fadd .. | .fsub .. | .fmul .. | .fdiv ..
  | .fcmps .. | .fadds .. | .fsubs .. | .fmuls .. | .fdivs .. | .fmovs .. | .ftois .. | .itofs .. | .fnegs ..
  | .fabss .. | .fsigns .. | .fmans .. | .fnabss .. | .ftx .. | .fcx .. | .fex .. | .fdx .. | .push ..
  | .pea .. | .pop .. | .link .. | .unlink .. => false
  | .brk | .nop1 | .rts1 | .imm16 .. | .imm24 .. | .imm32 .. | .imm40 .. | .imm48 .. | .imm56 .. | .imm64 ..
  | .tst .. | .cmp .. | .cmpi .. | .br .. | .add .. | .sub .. | .mul .. | .div .. | .addu .. | .subu ..
  | .mulu .. | .divu .. | .addu2 .. | .addu4 .. | .addu8 .. | .addu16 .. | .min .. | .max .. | .cpuid ..
  | .pand .. | .por .. | .peor .. | .pnand .. | .pnor .. | .penor .. | .pandc .. | .porc .. | .biti ..
  | .adduiShort .. | .addi .. | .subi .. | .muli .. | .divi .. | .addui .. | .subui .. | .mului .. | .divui ..
  | .and .. | .or .. | .eor .. | .nand .. | .nor .. | .enor .. | .andc .. | .orc .. | .mlo .. | .andi ..
  | .ori .. | .eori .. | .shl .. | .shr .. | .shlu .. | .shru .. | .rol .. | .ror .. | .shli .. | .shri ..
  | .shlui .. | .shrui .. | .roli .. | .rori .. | .addui2 .. | .addui4 .. | .addui8 .. | .addui16 .. | .ldi ..
  | .mux .. | .lb .. | .lbu .. | .lc .. | .lcu .. | .lh .. | .lhu .. | .lw .. | .lvwar .. | .swcr .. | .jci ..
  | .jhi .. | .jwi .. | .sb .. | .sc .. | .sh .. | .sw .. | .sti .. | .cas .. | .stset .. | .stmov ..
  | .stcmp .. | .stfnd .. | .cacheInvI .. | .cacheInvILine .. | .cacheInvD .. | .cacheInvDLine .. | .jsr3 ..
  | .jsr5 .. | .jsr6 .. | .rts3 .. | .loop .. | .mov .. | .neg .. | .not .. | .abs .. | .cntlz .. | .cntlo ..
  | .cntpop .. | .sxb .. | .sxc .. | .sxh .. | .com .. | .zxb .. | .zxc .. | .zxh .. | .lvb .. | .lvc ..
  | .lvh .. | .lvw .. | .lbx .. | .lbux .. | .lcx .. | .lcux .. | .lhx .. | .lhux .. | .lwx .. | .lcl .. | .jcix ..
  | .jhix .. | .jwix .. | .sbx .. | .scx .. | .shx .. | .swx .. | .stix .. | .lwShort .. | .tlbnop ..
  | .tlbpb .. | .tlbrd .. | .tlbwr .. | .tlbwi .. | .tlben .. | .tlbdis .. | .tlbinv .. | .nop2 .. | .rte ..
  | .rti .. | .bcdadd .. | .bcdsub .. | .bcdmul .. | .stp .. | .sync .. | .memsb .. | .memdb .. | .cli ..
  | .sei .. | .rtd .. => true

end Sys2Proof
end

