-- ==== Sys2Proof/Machine/Control.lean ====
section
/-! DEFINITION. Branches, jumps and returns from subroutines (40_control_transfer.md). -/

namespace Sys2Proof.Machine

/-- BR (40_control_transfer.md R181). -/
def execBr (q : Pred) (disp : BitVec 12) (s : State) : Result :=
  guarded q 3 [] s fun npc => .next (s.setPc (addLow npc (sext disp)))

/-- LOOP; what LC does at 0 is the parameter LOOP_DEC_AT_ZERO (R182; log 38). -/
def execLoop (q : Pred) (disp : BitVec 8) (s : State) : Result :=
  guarded q 3 [] s fun npc =>
    if s.lc ≠ 0 then .next { s with lc := s.lc - 1, pc := addLow npc (sext disp) }
    else .next { s with lc := if Config.loopDecAtZero then s.lc - 1 else s.lc, pc := npc }

/-- A jump with a link: the base is read before the link is written (R183). -/
def jumpAndLink (crt cr : CodeReg) (off npc : Word) (s : State) : Result :=
  .next ((s.setCodeReg crt npc).setPc (s.codeReg npc cr + off))

/-- JSR without an offset (R184). -/
def execJsr3 (q : Pred) (crt cr : CodeReg) (s : State) : Result :=
  guarded q 3 [] s fun npc => jumpAndLink crt cr 0 npc s

/-- JSR with a 16-bit offset; BSR and JMP (R184 to R186). -/
def execJsr5 (q : Pred) (crt cr : CodeReg) (off : BitVec 16) (s : State) : Result :=
  guarded q 5 [] s fun npc => jumpAndLink crt cr (s.jumpOffset cr off) npc s

/-- JSR with a 24-bit offset; BSR and JMP (R184 to R186). -/
def execJsr6 (q : Pred) (crt cr : CodeReg) (off : BitVec 24) (s : State) : Result :=
  guarded q 6 [] s fun npc => jumpAndLink crt cr (s.jumpOffset cr off) npc s

/-- RTS, the byte 11h (R193). -/
def execRts1 (s : State) : Result := .next (s.setPc (s.codeReg (s.npc 1) 1))

/-- RTS, form A3h (R191). -/
def execRts3 (q : Pred) (cr : CodeReg) (im4 : BitVec 4) (s : State) : Result :=
  guarded q 3 [] s fun npc => .next (s.setPc (s.codeReg npc cr + zext im4))

/-- RTS, form F2h: r27 adjusted; an adjustment that is no multiple of eight is refused (R192). -/
def execRts4 (q : Pred) (cr : CodeReg) (im4 : BitVec 4) (adj : BitVec 8) (s : State) : Result :=
  guarded q 4 [] s fun npc =>
    if adjustAligned adj then
      .next ((s.setReg 27 (s.reg 27 + zext adj)).setPc (s.codeReg npc cr + zext im4))
    else .refused .stackAdjust

/-- JCI's target: the upper bits of `npc`, 16 bits from memory (R200). -/
def charTarget (npc m : Word) : Word := npc.extractLsb' 16 48 ++ m.setWidth 16

/-- JHI's target: the upper bits of `npc`, 32 bits from memory (R200). -/
def halfTarget (npc m : Word) : Word := npc.extractLsb' 32 32 ++ m.setWidth 32

/-- JWI's target (R200). -/
def wordTarget (_npc m : Word) : Word := m

/-- JCI (R200). -/
def execJci (q : Pred) (sg : SegReg) (ct : CodeReg) (ra : Reg) (disp : BitVec 9) (s : State) : Result :=
  jumpThrough q [ra] sg ct (s.reg ra * 2 + s.imm disp) 2 charTarget s

/-- JHI (R200). -/
def execJhi (q : Pred) (sg : SegReg) (ct : CodeReg) (ra : Reg) (disp : BitVec 9) (s : State) : Result :=
  jumpThrough q [ra] sg ct (s.reg ra * 4 + s.imm disp) 4 halfTarget s

/-- JWI (R200). -/
def execJwi (q : Pred) (sg : SegReg) (ct : CodeReg) (ra : Reg) (disp : BitVec 9) (s : State) : Result :=
  jumpThrough q [ra] sg ct (s.reg ra * 8 + s.imm disp) 8 wordTarget s

/-- JCIX (R201). -/
def execJcix (q : Pred) (sg : SegReg) (ct : CodeReg) (ra rb : Reg) (s : State) : Result :=
  jumpThrough q [ra, rb] sg ct (s.reg ra + s.reg rb * 2) 2 charTarget s

/-- JHIX (R201). -/
def execJhix (q : Pred) (sg : SegReg) (ct : CodeReg) (ra rb : Reg) (s : State) : Result :=
  jumpThrough q [ra, rb] sg ct (s.reg ra + s.reg rb * 4) 4 halfTarget s

/-- JWIX (R201). -/
def execJwix (q : Pred) (sg : SegReg) (ct : CodeReg) (ra rb : Reg) (s : State) : Result :=
  jumpThrough q [ra, rb] sg ct (s.reg ra + s.reg rb * 8) 8 wordTarget s

end Sys2Proof.Machine
end

