-- ==== Sys2Proof/Machine/Special.lean ====
section
/-! DEFINITION. Reading and writing the special purpose registers by number (46_system.md R490, R491). -/

namespace Sys2Proof.Machine

/-- PREGS: `p[n]` at bits 4n+3..4n (10_state.md R49). -/
def State.predArray (s : State) : Word :=
  s.pred 15 ++ s.pred 14 ++ s.pred 13 ++ s.pred 12 ++ s.pred 11 ++ s.pred 10 ++ s.pred 9 ++ s.pred 8
    ++ s.pred 7 ++ s.pred 6 ++ s.pred 5 ++ s.pred 4 ++ s.pred 3 ++ s.pred 2 ++ s.pred 1 ++ s.pred 0

/-- PREGS written: all sixteen predicate registers (10_state.md R49). -/
def State.setPredArray (s : State) (v : Word) : State :=
  { s with preds := Vector.ofFn fun n : Fin 16 => v.extractLsb' (4 * n.val) 4 }

/-- TICK as a read finds it: a draw, not below the last value read (10_state.md R47; log 15). -/
def State.tickNow (s : State) : Word :=
  if (Config.tickRead s.clock).ult s.tick then s.tick else Config.tickRead s.clock

/-- A segment base written; address formation may still use the old one (10_state.md R36). -/
def State.setSegment (s : State) (n : SegReg) (v : Word) : State :=
  { s with segs := { s.segs with base := s.segs.base.set n.toNat v n.isLt } }

/-- A segment limit written; the limit test may still use the old one (10_state.md R37). -/
def State.setLimit (s : State) (n : SegReg) (v : Word) : State :=
  { s with segs := { s.segs with limit := s.segs.limit.set n.toNat v n.isLt } }

/-- A debug address register written (10_state.md R54). -/
def State.setDebugAddress (s : State) (n : BitVec 2) (v : Word) : State :=
  { s with dbg := { s.dbg with addr := s.dbg.addr.set n.toNat v n.isLt } }

/-- SPR 61 read, by BIR (10_state.md R52, R54 to R56). -/
def State.breakoutRead (s : State) : Check Word :=
  if s.bir.toNat < 4 then .ok (s.dbg.addr[(s.bir.setWidth 2).toNat]'(s.bir.setWidth 2).isLt)
  else if s.bir = 4 then .ok s.dbg.ctrl
  else if s.bir = 5 then .ok s.dbg.stat
  else .refuse .breakoutIndex

/-- SPR 61 written, by BIR (46_system.md R491). -/
def State.breakoutWrite (s : State) (v : Word) : Check State :=
  if s.bir.toNat < 4 then .ok (s.setDebugAddress (s.bir.setWidth 2) v)
  else if s.bir = 4 then .ok { s with dbg := { s.dbg with ctrl := v } }
  else if s.bir = 5 then .ok { s with dbg := { s.dbg with stat := v } }
  else .refuse .breakoutIndex

/-- SPR 48 and above, read (46_system.md R490). -/
def State.systemRead (s : State) (n : SprNum) : Check Word :=
  match n.toNat with
  | 48 => .ok Config.midValue
  | 49 => .ok Config.featValue
  | 50 => .ok s.tickNow
  | 51 => .ok s.lc
  | 52 => .ok s.predArray
  | 53 => .ok (zext s.asid)
  | 59 => .ok s.exc
  | 60 => .ok (Config.birRead s.clock)
  | 61 => s.breakoutRead
  | _ => .refuse .sprNumber

/-- `spr_read(n)` (46_system.md R490). -/
def State.sprRead (s : State) (npc : Word) (n : SprNum) : Check Word :=
  if n.toNat < 16 then .ok (zext (s.pred (n.setWidth 4)))
  else if n.toNat < 32 then .ok (s.codeReg npc (n.setWidth 4))
  else if n.toNat < 40 then .ok (s.segs.base[(n.setWidth 3).toNat]'(n.setWidth 3).isLt)
  else if n.toNat < 48 then .ok (s.segs.limit[(n.setWidth 3).toNat]'(n.setWidth 3).isLt)
  else s.systemRead n

/-- The state after a read of SPR `n`: TICK keeps the value it showed (10_state.md R47). -/
def State.afterSprRead (s : State) (n : SprNum) : State := if n = 50 then { s with tick := s.tickNow } else s

/-- SPR 48 and above, written (46_system.md R491). -/
def State.systemWrite (s : State) (n : SprNum) (v : Word) : Check State :=
  match n.toNat with
  | 48 => .ok s
  | 49 => .ok s
  | 50 => .ok s
  | 51 => .ok { s with lc := v }
  | 52 => .ok (s.setPredArray v)
  | 53 => .ok { s with asid := v.setWidth 8 }
  | 59 => .ok { s with exc := v }
  | 60 => .ok { s with bir := v.setWidth 6 }
  | 61 => s.breakoutWrite v
  | _ => .refuse .sprNumber

/-- `spr_write(n, v)` (46_system.md R491). -/
def State.sprWrite (s : State) (n : SprNum) (v : Word) : Check State :=
  if n.toNat < 16 then .ok (s.setPred (n.setWidth 4) (v.setWidth 4))
  else if n.toNat < 32 then .ok (s.setCodeReg (n.setWidth 4) v)
  else if n.toNat < 40 then .ok (s.setSegment (n.setWidth 3) v)
  else if n.toNat < 48 then .ok (s.setLimit (n.setWidth 3) v)
  else s.systemWrite n v

end Sys2Proof.Machine
end

