-- ==== Sys2Proof/Machine/LoadStore.lean ====
section
/-! DEFINITION. Loads, stores, volatile loads, reservation, compare and swap, memory increment, and the moves between
memory and special registers (44_load_store.md). -/

namespace Sys2Proof.Machine

/-! ### Loads -/

/-- LB (44_load_store.md R381). -/
def execLb (q : Pred) (sg : SegReg) (rt ra : Reg) (disp : BitVec 9) (s : State) : Result :=
  loadReg q 5 [rt, ra] sg (s.offDisp ra disp) 1 extendByte rt s

/-- LBU (R382). -/
def execLbu (q : Pred) (sg : SegReg) (rt ra : Reg) (disp : BitVec 9) (s : State) : Result :=
  loadReg q 5 [rt, ra] sg (s.offDisp ra disp) 1 id rt s

/-- LC (R383). -/
def execLc (q : Pred) (sg : SegReg) (rt ra : Reg) (disp : BitVec 9) (s : State) : Result :=
  loadReg q 5 [rt, ra] sg (s.offDisp ra disp) 2 extendChar rt s

/-- LCU (R384). -/
def execLcu (q : Pred) (sg : SegReg) (rt ra : Reg) (disp : BitVec 9) (s : State) : Result :=
  loadReg q 5 [rt, ra] sg (s.offDisp ra disp) 2 id rt s

/-- LH (R385). -/
def execLh (q : Pred) (sg : SegReg) (rt ra : Reg) (disp : BitVec 9) (s : State) : Result :=
  loadReg q 5 [rt, ra] sg (s.offDisp ra disp) 4 extendHalf rt s

/-- LHU (R386). -/
def execLhu (q : Pred) (sg : SegReg) (rt ra : Reg) (disp : BitVec 9) (s : State) : Result :=
  loadReg q 5 [rt, ra] sg (s.offDisp ra disp) 4 id rt s

/-- LW (R387). -/
def execLw (q : Pred) (sg : SegReg) (rt ra : Reg) (disp : BitVec 9) (s : State) : Result :=
  loadReg q 5 [rt, ra] sg (s.offDisp ra disp) 8 id rt s

/-- LW, short form (R395). -/
def execLwShort (q : Pred) (sg : SegReg) (rt ra : Reg) (s : State) : Result :=
  loadReg q 4 [rt, ra] sg (s.reg ra) 8 id rt s

/-- LBX (R388). -/
def execLbx (q : Pred) (sg : SegReg) (scale : BitVec 2) (rt ra rb : Reg) (s : State) : Result :=
  loadReg q 5 [rt, ra, rb] sg (s.offIndex ra rb scale) 1 extendByte rt s

/-- LBUX (R389). -/
def execLbux (q : Pred) (sg : SegReg) (scale : BitVec 2) (rt ra rb : Reg) (s : State) : Result :=
  loadReg q 5 [rt, ra, rb] sg (s.offIndex ra rb scale) 1 id rt s

/-- LCX (R390). -/
def execLcx (q : Pred) (sg : SegReg) (scale : BitVec 2) (rt ra rb : Reg) (s : State) : Result :=
  loadReg q 5 [rt, ra, rb] sg (s.offIndex ra rb scale) 2 extendChar rt s

/-- LCUX (R391). -/
def execLcux (q : Pred) (sg : SegReg) (scale : BitVec 2) (rt ra rb : Reg) (s : State) : Result :=
  loadReg q 5 [rt, ra, rb] sg (s.offIndex ra rb scale) 2 id rt s

/-- LHX (R392). -/
def execLhx (q : Pred) (sg : SegReg) (scale : BitVec 2) (rt ra rb : Reg) (s : State) : Result :=
  loadReg q 5 [rt, ra, rb] sg (s.offIndex ra rb scale) 4 extendHalf rt s

/-- LHUX (R393). -/
def execLhux (q : Pred) (sg : SegReg) (scale : BitVec 2) (rt ra rb : Reg) (s : State) : Result :=
  loadReg q 5 [rt, ra, rb] sg (s.offIndex ra rb scale) 4 id rt s

/-- LWX (R394). -/
def execLwx (q : Pred) (sg : SegReg) (scale : BitVec 2) (rt ra rb : Reg) (s : State) : Result :=
  loadReg q 5 [rt, ra, rb] sg (s.offIndex ra rb scale) 8 id rt s

/-! ### Volatile loads (log 20) -/

/-- LVB (R410). -/
def execLvb (q : Pred) (sg : SegReg) (rt ra : Reg) (disp : BitVec 9) (s : State) : Result :=
  loadReg q 5 [rt, ra] sg (s.offDisp ra disp) 1 extendByte rt s

/-- LVC (R411). -/
def execLvc (q : Pred) (sg : SegReg) (rt ra : Reg) (disp : BitVec 9) (s : State) : Result :=
  loadReg q 5 [rt, ra] sg (s.offDisp ra disp) 2 extendChar rt s

/-- LVH (R412). -/
def execLvh (q : Pred) (sg : SegReg) (rt ra : Reg) (disp : BitVec 9) (s : State) : Result :=
  loadReg q 5 [rt, ra] sg (s.offDisp ra disp) 4 extendHalf rt s

/-- LVW (R413). -/
def execLvw (q : Pred) (sg : SegReg) (rt ra : Reg) (disp : BitVec 9) (s : State) : Result :=
  loadReg q 5 [rt, ra] sg (s.offDisp ra disp) 8 id rt s

/-! ### Stores -/

/-- SB (R400). -/
def execSb (q : Pred) (sg : SegReg) (rs ra : Reg) (disp : BitVec 9) (s : State) : Result :=
  storeWord q 5 [rs, ra] sg (s.offDisp ra disp) 1 (s.reg rs) s

/-- SC (R401). -/
def execSc (q : Pred) (sg : SegReg) (rs ra : Reg) (disp : BitVec 9) (s : State) : Result :=
  storeWord q 5 [rs, ra] sg (s.offDisp ra disp) 2 (s.reg rs) s

/-- SH (R402). -/
def execSh (q : Pred) (sg : SegReg) (rs ra : Reg) (disp : BitVec 9) (s : State) : Result :=
  storeWord q 5 [rs, ra] sg (s.offDisp ra disp) 4 (s.reg rs) s

/-- SW (R403). -/
def execSw (q : Pred) (sg : SegReg) (rs ra : Reg) (disp : BitVec 9) (s : State) : Result :=
  storeWord q 5 [rs, ra] sg (s.offDisp ra disp) 8 (s.reg rs) s

/-- SBX (R404). -/
def execSbx (q : Pred) (sg : SegReg) (scale : BitVec 2) (rs ra rb : Reg) (s : State) : Result :=
  storeWord q 5 [rs, ra, rb] sg (s.offIndex ra rb scale) 1 (s.reg rs) s

/-- SCX (R405). -/
def execScx (q : Pred) (sg : SegReg) (scale : BitVec 2) (rs ra rb : Reg) (s : State) : Result :=
  storeWord q 5 [rs, ra, rb] sg (s.offIndex ra rb scale) 2 (s.reg rs) s

/-- SHX (R406). -/
def execShx (q : Pred) (sg : SegReg) (scale : BitVec 2) (rs ra rb : Reg) (s : State) : Result :=
  storeWord q 5 [rs, ra, rb] sg (s.offIndex ra rb scale) 4 (s.reg rs) s

/-- SWX (R407). -/
def execSwx (q : Pred) (sg : SegReg) (scale : BitVec 2) (rs ra rb : Reg) (s : State) : Result :=
  storeWord q 5 [rs, ra, rb] sg (s.offIndex ra rb scale) 8 (s.reg rs) s

/-- STI; a prefix extends the displacement (R408). -/
def execSti (q : Pred) (sg : SegReg) (imm : BitVec 6) (ra : Reg) (disp : BitVec 9) (s : State) : Result :=
  storeWord q 5 [ra] sg (s.offDisp ra disp) 8 (zext imm) s

/-- STIX, through DS (R409). -/
def execStix (q : Pred) (scale : BitVec 2) (imm : BitVec 10) (ra rb : Reg) (s : State) : Result :=
  storeWord q 5 [ra, rb] 1 (s.offIndex ra rb scale) 8 (zext imm) s

/-! ### Reservation, compare and swap, increment -/

/-- LVWAR: also with target r0 (R415; log 32). -/
def execLvwar (q : Pred) (sg : SegReg) (rt ra : Reg) (disp : BitVec 9) (s : State) : Result :=
  guarded q 5 [rt, ra] s fun npc =>
    (dataCheck s .load 0 sg (s.offDisp ra disp) 8).run fun p =>
      finishReg rt (s.loadValue 0 p 8) npc { s with reservation := some p.pa }

/-- A reservation is present on the address (20_memory.md R112; log 21). -/
def State.reserved (s : State) (pa : Word) : Bool :=
  match s.reservation with
  | none => false
  | some r => r == pa || Config.sameReservation r pa

/-- SWCR (R414). -/
def execSwcr (q : Pred) (sg : SegReg) (rs ra : Reg) (disp : BitVec 9) (s : State) : Result :=
  guarded q 5 [rs, ra] s fun npc =>
    (dataCheck s .store 0 sg (s.offDisp ra disp) 8).run fun p =>
      let t := if s.reserved p.pa then (s.storeValue p 8 (s.reg rs)).setPred 0 0#4 else s.setPred 0 1#4
      .next ({ t with reservation := none }.setPc npc)

/-- CAS, through DS: one access that loads and may store (R416; log 31). -/
def execCas (q : Pred) (rt ra rb rc : Reg) (disp : BitVec 8) (s : State) : Result :=
  guarded q 6 [rt, ra, rb, rc] s fun npc =>
    (dataCheck s .update 0 1 (s.offDisp ra disp) 8).run fun p =>
      let m := s.loadValue 0 p 8
      finishReg rt m npc (if m = s.reg rb then s.storeValue p 8 (s.reg rc) else s)

/-- INC: O3 other than 0 and size codes above 3 are refused (R417; log 31). -/
def execInc (q : Pred) (sg : SegReg) (o3 sz : BitVec 3) (ra : Reg) (disp : BitVec 9) (amt : BitVec 8)
    (s : State) : Result :=
  guarded q 6 [ra] s fun npc =>
    if incFormListed o3 sz then
      (dataCheck s .update 0 sg (s.offDisp ra disp) (2 ^ sz.toNat)).run fun p =>
        .next ((s.storeValue p (2 ^ sz.toNat) (s.loadValue 0 p (2 ^ sz.toNat) + sext amt)).setPc npc)
    else .refused .incForm

/-! ### Cache line load, special registers -/

/-- LCL: a prefetch, whichever cache it selects (R418; logs 20, 34). -/
def execLcl (q : Pred) (_sg : SegReg) (_tgt : BitVec 6) (ra : Reg) (_disp : BitVec 9) (s : State) : Result :=
  guarded q 5 [ra] s fun npc => .next (s.setPc npc)

/-- LWS (R419; log 37). -/
def execLws (q : Pred) (sg : SegReg) (spr : SprNum) (ra : Reg) (disp : BitVec 9) (s : State) : Result :=
  guarded q 5 [ra] s fun npc =>
    if sprListed spr then
      memRead s 0 sg (s.offDisp ra disp) 8 fun v => (s.sprWrite spr v).run fun t => .next (t.setPc npc)
    else .refused .sprNumber

/-- SWS (R420). -/
def execSws (q : Pred) (sg : SegReg) (spr : SprNum) (ra : Reg) (disp : BitVec 9) (s : State) : Result :=
  guarded q 5 [ra] s fun npc =>
    (s.sprRead npc spr).run fun v =>
      memWrite s 0 sg (s.offDisp ra disp) 8 v fun t => .next ((t.afterSprRead spr).setPc npc)

end Sys2Proof.Machine
end

