-- ==== Sys2Proof/Machine/Logic.lean ====
section
/-! DEFINITION. Logic, shifts, counts, extensions and bit fields (43_logic_shift_bitfield.md). -/

namespace Sys2Proof.Machine

/-! ### Logic -/

/-- AND (43_logic_shift_bitfield.md R301). -/
def execAnd (q : Pred) (rt ra rb : Reg) (s : State) : Result :=
  writeReg q 5 [rt, ra, rb] rt (s.reg ra &&& s.reg rb) s

/-- OR (R304). -/
def execOr (q : Pred) (rt ra rb : Reg) (s : State) : Result :=
  writeReg q 5 [rt, ra, rb] rt (s.reg ra ||| s.reg rb) s

/-- EOR (R307). -/
def execEor (q : Pred) (rt ra rb : Reg) (s : State) : Result :=
  writeReg q 5 [rt, ra, rb] rt (s.reg ra ^^^ s.reg rb) s

/-- NAND (R309). -/
def execNand (q : Pred) (rt ra rb : Reg) (s : State) : Result :=
  writeReg q 5 [rt, ra, rb] rt (~~~(s.reg ra &&& s.reg rb)) s

/-- NOR (R310). -/
def execNor (q : Pred) (rt ra rb : Reg) (s : State) : Result :=
  writeReg q 5 [rt, ra, rb] rt (~~~(s.reg ra ||| s.reg rb)) s

/-- ENOR (R311). -/
def execEnor (q : Pred) (rt ra rb : Reg) (s : State) : Result :=
  writeReg q 5 [rt, ra, rb] rt (~~~(s.reg ra ^^^ s.reg rb)) s

/-- ANDC (R303). -/
def execAndc (q : Pred) (rt ra rb : Reg) (s : State) : Result :=
  writeReg q 5 [rt, ra, rb] rt (s.reg ra &&& ~~~(s.reg rb)) s

/-- ORC (R306). -/
def execOrc (q : Pred) (rt ra rb : Reg) (s : State) : Result :=
  writeReg q 5 [rt, ra, rb] rt (s.reg ra ||| ~~~(s.reg rb)) s

/-- ANDI (R302). -/
def execAndi (q : Pred) (rt ra : Reg) (imm : BitVec 12) (s : State) : Result :=
  writeReg q 5 [rt, ra] rt (s.reg ra &&& s.imm imm) s

/-- ORI (R305). -/
def execOri (q : Pred) (rt ra : Reg) (imm : BitVec 12) (s : State) : Result :=
  writeReg q 5 [rt, ra] rt (s.reg ra ||| s.imm imm) s

/-- EORI (R308). -/
def execEori (q : Pred) (rt ra : Reg) (imm : BitVec 12) (s : State) : Result :=
  writeReg q 5 [rt, ra] rt (s.reg ra ^^^ s.imm imm) s

/-- The operation that MLO's function code names (R312). -/
def mloResult (f a b : Word) : Option Word :=
  match f.toNat with
  | 0 => some (a &&& b)
  | 1 => some (a ||| b)
  | 2 => some (a ^^^ b)
  | 3 => some (~~~(a &&& b))
  | 4 => some (~~~(a ||| b))
  | 5 => some (~~~(a ^^^ b))
  | 6 => some (a &&& ~~~b)
  | 7 => some (a ||| ~~~b)
  | _ => none

/-- MLO; a function code above 7 is refused (R312). -/
def execMlo (q : Pred) (rt ra rb rc : Reg) (s : State) : Result :=
  guarded q 5 [rt, ra, rb, rc] s fun npc =>
    match mloResult (s.reg rc) (s.reg ra) (s.reg rb) with
    | some v => finishReg rt v npc s
    | none => .refused .mloFunction

/-- MUX (R313). -/
def execMux (q : Pred) (rt ra rb rc : Reg) (s : State) : Result :=
  writeReg q 5 [rt, ra, rb, rc] rt ((s.reg ra &&& s.reg rb) ||| (~~~(s.reg ra) &&& s.reg rc)) s

/-- NOT, logical (R314). -/
def execNot (q : Pred) (rt ra : Reg) (s : State) : Result :=
  writeReg q 4 [rt, ra] rt (wordOfBool (s.reg ra == 0)) s

/-- COM (R315). -/
def execCom (q : Pred) (rt ra : Reg) (s : State) : Result :=
  writeReg q 4 [rt, ra] rt (~~~(s.reg ra)) s

/-! ### Shifts and rotates -/

/-- `n <- x[Rb][5:0]` (R320). -/
def shiftCount (v : Word) : Nat := (v.setWidth 6).toNat

/-- SHL (R321). -/
def execShl (q : Pred) (rt ra rb : Reg) (s : State) : Result :=
  writeReg q 5 [rt, ra, rb] rt ((s.reg ra) <<< shiftCount (s.reg rb)) s

/-- SHLI (R322). -/
def execShli (q : Pred) (rt ra : Reg) (imm : BitVec 6) (s : State) : Result :=
  writeReg q 5 [rt, ra] rt ((s.reg ra) <<< imm.toNat) s

/-- SHLU (R323). -/
def execShlu (q : Pred) (rt ra rb : Reg) (s : State) : Result :=
  writeReg q 5 [rt, ra, rb] rt ((s.reg ra) <<< shiftCount (s.reg rb)) s

/-- SHLUI (R324). -/
def execShlui (q : Pred) (rt ra : Reg) (imm : BitVec 6) (s : State) : Result :=
  writeReg q 5 [rt, ra] rt ((s.reg ra) <<< imm.toNat) s

/-- SHR, arithmetic (R325). -/
def execShr (q : Pred) (rt ra rb : Reg) (s : State) : Result :=
  writeReg q 5 [rt, ra, rb] rt ((s.reg ra).sshiftRight (shiftCount (s.reg rb))) s

/-- SHRI, arithmetic (R326). -/
def execShri (q : Pred) (rt ra : Reg) (imm : BitVec 6) (s : State) : Result :=
  writeReg q 5 [rt, ra] rt ((s.reg ra).sshiftRight (imm.toNat)) s

/-- SHRU (R327). -/
def execShru (q : Pred) (rt ra rb : Reg) (s : State) : Result :=
  writeReg q 5 [rt, ra, rb] rt ((s.reg ra) >>> shiftCount (s.reg rb)) s

/-- SHRUI (R328). -/
def execShrui (q : Pred) (rt ra : Reg) (imm : BitVec 6) (s : State) : Result :=
  writeReg q 5 [rt, ra] rt ((s.reg ra) >>> imm.toNat) s

/-- ROL (R329). -/
def execRol (q : Pred) (rt ra rb : Reg) (s : State) : Result :=
  writeReg q 5 [rt, ra, rb] rt ((s.reg ra).rotateLeft (shiftCount (s.reg rb))) s

/-- ROLI (R330). -/
def execRoli (q : Pred) (rt ra : Reg) (imm : BitVec 6) (s : State) : Result :=
  writeReg q 5 [rt, ra] rt ((s.reg ra).rotateLeft (imm.toNat)) s

/-- ROR (R331). -/
def execRor (q : Pred) (rt ra rb : Reg) (s : State) : Result :=
  writeReg q 5 [rt, ra, rb] rt ((s.reg ra).rotateRight (shiftCount (s.reg rb))) s

/-- RORI (R332). -/
def execRori (q : Pred) (rt ra : Reg) (imm : BitVec 6) (s : State) : Result :=
  writeReg q 5 [rt, ra] rt ((s.reg ra).rotateRight (imm.toNat)) s

/-! ### Counts -/

/-- How many of the bits `n - 1` downward are `b` before the first that is not. -/
def countLeading (b : Bool) (v : Word) : Nat → Nat
  | 0 => 0
  | n + 1 => if v.getLsbD n = b then countLeading b v n + 1 else 0

/-- How many of the bits below `n` are 1. -/
def countOnes (v : Word) : Nat → Nat
  | 0 => 0
  | n + 1 => countOnes v n + (v.getLsbD n).toNat

/-- CNTLZ (R340). -/
def execCntlz (q : Pred) (rt ra : Reg) (s : State) : Result :=
  writeReg q 4 [rt, ra] rt (BitVec.ofNat 64 (countLeading false (s.reg ra) 64)) s

/-- CNTLO (R341). -/
def execCntlo (q : Pred) (rt ra : Reg) (s : State) : Result :=
  writeReg q 4 [rt, ra] rt (BitVec.ofNat 64 (countLeading true (s.reg ra) 64)) s

/-- CNTPOP (R342). -/
def execCntpop (q : Pred) (rt ra : Reg) (s : State) : Result :=
  writeReg q 4 [rt, ra] rt (BitVec.ofNat 64 (countOnes (s.reg ra) 64)) s

/-! ### Sign and zero extension -/

/-- SXB (R343). -/
def execSxb (q : Pred) (rt ra : Reg) (s : State) : Result :=
  writeReg q 4 [rt, ra] rt (sext ((s.reg ra).setWidth 8)) s

/-- SXC (R344). -/
def execSxc (q : Pred) (rt ra : Reg) (s : State) : Result :=
  writeReg q 4 [rt, ra] rt (sext ((s.reg ra).setWidth 16)) s

/-- SXH (R345). -/
def execSxh (q : Pred) (rt ra : Reg) (s : State) : Result :=
  writeReg q 4 [rt, ra] rt (sext ((s.reg ra).setWidth 32)) s

/-- ZXB (R346). -/
def execZxb (q : Pred) (rt ra : Reg) (s : State) : Result :=
  writeReg q 4 [rt, ra] rt (zext ((s.reg ra).setWidth 8)) s

/-- ZXC (R347). -/
def execZxc (q : Pred) (rt ra : Reg) (s : State) : Result :=
  writeReg q 4 [rt, ra] rt (zext ((s.reg ra).setWidth 16)) s

/-- ZXH (R348). -/
def execZxh (q : Pred) (rt ra : Reg) (s : State) : Result :=
  writeReg q 4 [rt, ra] rt (zext ((s.reg ra).setWidth 32)) s

/-! ### Bit fields -/

/-- The width of a field (R350). -/
def fieldWidth (mb me : BitVec 6) : Nat := me.toNat - mb.toNat + 1

/-- `((2^w) - 1) << mb` (R350). -/
def fieldMask (mb me : BitVec 6) : Word := BitVec.ofNat 64 ((2 ^ fieldWidth mb me - 1) * 2 ^ mb.toNat)

/-- A bit-field instruction; mb above me is refused (R350). -/
def writeField (q : Pred) (named : List Reg) (rt : Reg) (mb me : BitVec 6) (v : Word) (s : State) : Result :=
  guarded q 6 named s fun npc =>
    if mb.toNat ≤ me.toNat then finishReg rt v npc s else .refused .bitFieldOrder

/-- BFINS (R351). -/
def execBfins (q : Pred) (rt ra : Reg) (mb me : BitVec 6) (s : State) : Result :=
  writeField q [rt, ra] rt mb me
    ((s.reg rt &&& ~~~(fieldMask mb me)) ||| ((s.reg ra <<< mb.toNat) &&& fieldMask mb me)) s

/-- BFSET (R353). -/
def execBfset (q : Pred) (rt ra : Reg) (mb me : BitVec 6) (s : State) : Result :=
  writeField q [rt, ra] rt mb me (s.reg ra ||| fieldMask mb me) s

/-- BFCLR (R354). -/
def execBfclr (q : Pred) (rt ra : Reg) (mb me : BitVec 6) (s : State) : Result :=
  writeField q [rt, ra] rt mb me (s.reg ra &&& ~~~(fieldMask mb me)) s

/-- BFCHG (R355). -/
def execBfchg (q : Pred) (rt ra : Reg) (mb me : BitVec 6) (s : State) : Result :=
  writeField q [rt, ra] rt mb me (s.reg ra ^^^ fieldMask mb me) s

/-- BFEXT (R356). -/
def execBfext (q : Pred) (rt ra : Reg) (mb me : BitVec 6) (s : State) : Result :=
  writeField q [rt, ra] rt mb me (sext ((s.reg ra).extractLsb' mb.toNat (fieldWidth mb me))) s

/-- BFEXTU (R357). -/
def execBfextu (q : Pred) (rt ra : Reg) (mb me : BitVec 6) (s : State) : Result :=
  writeField q [rt, ra] rt mb me (zext ((s.reg ra).extractLsb' mb.toNat (fieldWidth mb me))) s

/-- BFINSI (R352). -/
def execBfinsi (q : Pred) (rt : Reg) (imm mb me : BitVec 6) (s : State) : Result :=
  writeField q [rt] rt mb me
    ((s.reg rt &&& ~~~(fieldMask mb me)) ||| ((zext imm <<< mb.toNat) &&& fieldMask mb me)) s

end Sys2Proof.Machine
end

