-- ==== Sys2Proof/Machine/MapOnly.lean ====
section
/-! DEFINITION. The names that stand in the opcode map only: the spec gives no effect, so each is refused by name
(47_map_only.md). Where the format is known a false predicate skips the instruction (R540). -/

namespace Sys2Proof.Machine

/-- SGN: skipped under a false predicate, else refused (47_map_only.md R541). -/
def execSgn (q : Pred) (rt ra : Reg) (s : State) : Result :=
  guarded q 4 [rt, ra] s fun _ => .refused .nameOnly

/-- REDOR: skipped under a false predicate, else refused (R543). -/
def execRedor (q : Pred) (rt ra : Reg) (s : State) : Result :=
  guarded q 4 [rt, ra] s fun _ => .refused .nameOnly

/-- REDAND: skipped under a false predicate, else refused (R543). -/
def execRedand (q : Pred) (rt ra : Reg) (s : State) : Result :=
  guarded q 4 [rt, ra] s fun _ => .refused .nameOnly

/-- PAR: skipped under a false predicate, else refused (R543). -/
def execPar (q : Pred) (rt ra : Reg) (s : State) : Result :=
  guarded q 4 [rt, ra] s fun _ => .refused .nameOnly

/-- FMAC: no effect is given (R550). -/
def execFmac (_q : Pred) (_s : State) : Result := .refused .floatingPoint

/-- FMOV: no effect is given (R545). -/
def execFmov (_q : Pred) (_s : State) : Result := .refused .floatingPoint

/-- FTOI: no effect is given (R545). -/
def execFtoi (_q : Pred) (_s : State) : Result := .refused .floatingPoint

/-- ITOF: no effect is given (R545). -/
def execItof (_q : Pred) (_s : State) : Result := .refused .floatingPoint

/-- FNEG: no effect is given (R545). -/
def execFneg (_q : Pred) (_s : State) : Result := .refused .floatingPoint

/-- FABS: no effect is given (R545). -/
def execFabs (_q : Pred) (_s : State) : Result := .refused .floatingPoint

/-- FSIGN: no effect is given (R545). -/
def execFsign (_q : Pred) (_s : State) : Result := .refused .floatingPoint

/-- FMAN: no effect is given (R545). -/
def execFman (_q : Pred) (_s : State) : Result := .refused .floatingPoint

/-- FNABS: no effect is given (R545). -/
def execFnabs (_q : Pred) (_s : State) : Result := .refused .floatingPoint

/-- FSTAT: no effect is given (R545). -/
def execFstat (_q : Pred) (_s : State) : Result := .refused .floatingPoint

/-- FRM: no effect is given (R545). -/
def execFrm (_q : Pred) (_s : State) : Result := .refused .floatingPoint

/-- FCMP: no effect is given (R545). -/
def execFcmp (_q : Pred) (_s : State) : Result := .refused .floatingPoint

/-- FADD: no effect is given (R545). -/
def execFadd (_q : Pred) (_s : State) : Result := .refused .floatingPoint

/-- FSUB: no effect is given (R545). -/
def execFsub (_q : Pred) (_s : State) : Result := .refused .floatingPoint

/-- FMUL: no effect is given (R545). -/
def execFmul (_q : Pred) (_s : State) : Result := .refused .floatingPoint

/-- FDIV: no effect is given (R545). -/
def execFdiv (_q : Pred) (_s : State) : Result := .refused .floatingPoint

/-- FCMPS: no effect is given (R545). -/
def execFcmps (_q : Pred) (_s : State) : Result := .refused .floatingPoint

/-- FADDS: no effect is given (R545). -/
def execFadds (_q : Pred) (_s : State) : Result := .refused .floatingPoint

/-- FSUBS: no effect is given (R545). -/
def execFsubs (_q : Pred) (_s : State) : Result := .refused .floatingPoint

/-- FMULS: no effect is given (R545). -/
def execFmuls (_q : Pred) (_s : State) : Result := .refused .floatingPoint

/-- FDIVS: no effect is given (R545). -/
def execFdivs (_q : Pred) (_s : State) : Result := .refused .floatingPoint

/-- FMOVS: no effect is given (R545). -/
def execFmovs (_q : Pred) (_s : State) : Result := .refused .floatingPoint

/-- FTOIS: no effect is given (R545). -/
def execFtois (_q : Pred) (_s : State) : Result := .refused .floatingPoint

/-- ITOFS: no effect is given (R545). -/
def execItofs (_q : Pred) (_s : State) : Result := .refused .floatingPoint

/-- FNEGS: no effect is given (R545). -/
def execFnegs (_q : Pred) (_s : State) : Result := .refused .floatingPoint

/-- FABSS: no effect is given (R545). -/
def execFabss (_q : Pred) (_s : State) : Result := .refused .floatingPoint

/-- FSIGNS: no effect is given (R545). -/
def execFsigns (_q : Pred) (_s : State) : Result := .refused .floatingPoint

/-- FMANS: no effect is given (R545). -/
def execFmans (_q : Pred) (_s : State) : Result := .refused .floatingPoint

/-- FNABSS: no effect is given (R545). -/
def execFnabss (_q : Pred) (_s : State) : Result := .refused .floatingPoint

/-- FTX: no effect is given (R545). -/
def execFtx (_q : Pred) (_s : State) : Result := .refused .floatingPoint

/-- FCX: no effect is given (R545). -/
def execFcx (_q : Pred) (_s : State) : Result := .refused .floatingPoint

/-- FEX: no effect is given (R545). -/
def execFex (_q : Pred) (_s : State) : Result := .refused .floatingPoint

/-- FDX: no effect is given (R545). -/
def execFdx (_q : Pred) (_s : State) : Result := .refused .floatingPoint

/-- FTST: no effect is given (R545). -/
def execFtst (_q : Pred) (_pt : PredReg) (_s : State) : Result := .refused .floatingPoint

/-- FSTST: no effect is given (R545). -/
def execFstst (_q : Pred) (_pt : PredReg) (_s : State) : Result := .refused .floatingPoint

/-- FSCMP: no effect is given (R545). -/
def execFscmp (_q : Pred) (_pt : PredReg) (_s : State) : Result := .refused .floatingPoint

/-- LFS: no effect is given (R545). -/
def execLfs (_q : Pred) (_s : State) : Result := .refused .floatingPoint

/-- LFD: no effect is given (R545). -/
def execLfd (_q : Pred) (_s : State) : Result := .refused .floatingPoint

/-- SFS: no effect is given (R545). -/
def execSfs (_q : Pred) (_s : State) : Result := .refused .floatingPoint

/-- SFD: no effect is given (R545). -/
def execSfd (_q : Pred) (_s : State) : Result := .refused .floatingPoint

/-- PUSH: no format and no effect is given (R547). -/
def execPush (_q : Pred) (_s : State) : Result := .refused .stackInstruction

/-- PEA: no format and no effect is given (R547). -/
def execPea (_q : Pred) (_s : State) : Result := .refused .stackInstruction

/-- POP: no format and no effect is given (R547). -/
def execPop (_q : Pred) (_s : State) : Result := .refused .stackInstruction

/-- LINK: no format and no effect is given (R547). -/
def execLink (_q : Pred) (_s : State) : Result := .refused .stackInstruction

/-- UNLINK: no format and no effect is given (R547). -/
def execUnlink (_q : Pred) (_s : State) : Result := .refused .stackInstruction

/-- IMM at opcode FFh: a name only (R549). -/
def execImmFF (_q : Pred) (_s : State) : Result := .refused .nameOnly

end Sys2Proof.Machine
end

