-- ==== Sys2Proof/Machine/Strings.lean ====
section
/-! DEFINITION. Memory string instructions: one element a step (45_string.md). -/

namespace Sys2Proof.Machine

/-- One step of a string instruction: nothing when LC is 0, else one element (45_string.md R461). -/
def stringStep (q : Pred) (named : List Reg) (s : State) (element : Word → Result) : Result :=
  guarded q 5 named s fun npc => if s.lc = 0 then .next (s.setPc npc) else element npc

/-- The end of an element: on to the next instruction when LC is 0, else the same again (R461). -/
def endElement (t : State) (npc : Word) : Result :=
  if t.lc = 0 then .next (t.setPc npc) else .next { t with progress := .repeating }

/-- The index moved and LC counted down (R462 to R466). -/
def State.advance (s : State) (index : Reg) (sz : Size) (dir : Direction) : State :=
  { s.setReg index (s.reg index + elementStep sz dir) with lc := s.lc - 1 }

/-- STSET and its aliases STSB, STSC, STSH, STSW (R462, R463). -/
def execStset (q : Pred) (sg : SegReg) (sz : Size) (dir : Direction) (ra rb : Reg) (s : State) : Result :=
  stringStep q [ra, rb] s fun npc =>
    memWrite s 0 sg (s.reg ra) (sizeBytes sz) (s.reg rb) fun t => endElement (t.advance ra sz dir) npc

/-- STMOV (R464). -/
def execStmov (q : Pred) (sg : SegReg) (sz : Size) (dir : Direction) (ra rb rc : Reg) (s : State) : Result :=
  stringStep q [ra, rb, rc] s fun npc =>
    memRead s 0 sg (s.reg ra + s.reg rc) (sizeBytes sz) fun v =>
      memWrite s 1 sg (s.reg rb + s.reg rc) (sizeBytes sz) v fun t => endElement (t.advance rc sz dir) npc

/-- STCMP: a mismatch ends it (R465). -/
def execStcmp (q : Pred) (sg : SegReg) (sz : Size) (dir : Direction) (ra rb rc : Reg) (s : State) : Result :=
  stringStep q [ra, rb, rc] s fun npc =>
    memRead s 0 sg (s.reg ra + s.reg rc) (sizeBytes sz) fun a =>
      memRead s 1 sg (s.reg rb + s.reg rc) (sizeBytes sz) fun b =>
        endElement (if a = b then s.advance rc sz dir else { s with lc := 0 }) npc

/-- STFND: a match on the element's bytes ends it (R466). -/
def execStfnd (q : Pred) (sg : SegReg) (sz : Size) (dir : Direction) (ra rb rc : Reg) (s : State) : Result :=
  stringStep q [ra, rb, rc] s fun npc =>
    memRead s 0 sg (s.reg ra + s.reg rc) (sizeBytes sz) fun a =>
      endElement (if a = lowBytes (sizeBytes sz) (s.reg rb) then { s with lc := 0 } else s.advance rc sz dir) npc

end Sys2Proof.Machine
end

