-- ==== Sys2Proof/Machine/System.lean ====
section
/-! DEFINITION. Calls into the vector table and returns from it, the interrupt mask, special register moves, barriers,
CACHE, NOP, STP, and the immediate prefixes (46_system.md, 60_exceptions.md R580 to R582, 30_encoding.md R139). -/

namespace Sys2Proof.Machine

/-! ### Immediate prefixes -/

/-- A prefix of `m` constant bytes: it takes effect inside its unit and moves no program counter; two in a row are
refused (30_encoding.md R139 to R141; log 26). -/
def setPrefix (m : Nat) (ext : BitVec 56) (s : State) : Result :=
  match s.immPrefix with
  | none => .next { s with immPrefix := some { bytes := m, ext := ext } }
  | some _ => .refused .immediateNotTaken

/-- IMM16 (30_encoding.md R139). -/
def execImm16 (const : BitVec 8) (s : State) : Result :=
  setPrefix 1 (const.signExtend 56) s

/-- IMM24 (30_encoding.md R139). -/
def execImm24 (const : BitVec 16) (s : State) : Result :=
  setPrefix 2 (const.signExtend 56) s

/-- IMM32 (30_encoding.md R139). -/
def execImm32 (const : BitVec 24) (s : State) : Result :=
  setPrefix 3 (const.signExtend 56) s

/-- IMM40 (30_encoding.md R139). -/
def execImm40 (const : BitVec 32) (s : State) : Result :=
  setPrefix 4 (const.signExtend 56) s

/-- IMM48 (30_encoding.md R139). -/
def execImm48 (const : BitVec 40) (s : State) : Result :=
  setPrefix 5 (const.signExtend 56) s

/-- IMM56 (30_encoding.md R139). -/
def execImm56 (const : BitVec 48) (s : State) : Result :=
  setPrefix 6 (const.signExtend 56) s

/-- IMM64 (30_encoding.md R139). -/
def execImm64 (const : BitVec 56) (s : State) : Result :=
  setPrefix 7 (const.signExtend 56) s

/-! ### Calls and returns -/

/-- BRK: the Break exception at its own address (46_system.md R480). -/
def execBrk (s : State) : Result := raiseException vecBreak s

/-- SYS; other constant nibbles are refused (46_system.md R481). -/
def execSys (q : Pred) (cr crt : CodeReg) (off : BitVec 8) (s : State) : Result :=
  guarded q 4 [] s fun npc => if sysNibbles cr crt then callSystem off npc s else .refused .callNibbles

/-- INT; other constant nibbles are refused (46_system.md R482). -/
def execInt (q : Pred) (cr crt : CodeReg) (off : BitVec 8) (s : State) : Result :=
  guarded q 4 [] s fun _ => if intNibbles cr crt then callInterrupt off s else .refused .callNibbles

/-- RTE (60_exceptions.md R580). -/
def execRte (q : Pred) (s : State) : Result :=
  guarded q 2 [] s fun _ => privileged s (returnFromException 13 s)

/-- RTD (60_exceptions.md R581). -/
def execRtd (q : Pred) (s : State) : Result :=
  guarded q 2 [] s fun _ => privileged s (returnFromException 11 s)

/-- RTI (60_exceptions.md R582). -/
def execRti (q : Pred) (s : State) : Result :=
  guarded q 2 [] s fun _ => privileged s (returnFromInterrupt s)

/-! ### Interrupt mask -/

/-- CLI (46_system.md R484). -/
def execCli (q : Pred) (s : State) : Result :=
  guarded q 2 [] s fun npc => privileged s (.next ((s.setInterruptMask false).setPc npc))

/-- SEI (46_system.md R485). -/
def execSei (q : Pred) (s : State) : Result :=
  guarded q 2 [] s fun npc => privileged s (.next ((s.setInterruptMask true).setPc npc))

/-! ### Special register moves -/

/-- MFSPR (46_system.md R490). -/
def execMfspr (q : Pred) (rt : Reg) (spr : SprNum) (s : State) : Result :=
  guarded q 4 [rt] s fun npc => (s.sprRead npc spr).run fun v => finishReg rt v npc (s.afterSprRead spr)

/-- MTSPR (46_system.md R491). -/
def execMtspr (q : Pred) (spr : SprNum) (ra : Reg) (s : State) : Result :=
  guarded q 4 [ra] s fun npc => (s.sprWrite spr (s.reg ra)).run fun t => .next (t.setPc npc)

/-- MOVS (46_system.md R492). -/
def execMovs (q : Pred) (sprt spr : SprNum) (s : State) : Result :=
  guarded q 4 [] s fun npc =>
    (s.sprRead npc spr).run fun v =>
      ((s.afterSprRead spr).sprWrite sprt v).run fun t => .next (t.setPc npc)

/-- LDIS (46_system.md R493). -/
def execLdis (q : Pred) (spr : SprNum) (imm : BitVec 10) (s : State) : Result :=
  guarded q 4 [] s fun npc => (s.sprWrite spr (s.imm imm)).run fun t => .next (t.setPc npc)

/-! ### Barriers -/

/-- The copies of the segment registers and limits brought up to date (70_reset_and_hazards.md R632). -/
def State.syncSegments (s : State) : State :=
  { s with segs := { s.segs with baseUsed := s.segs.base, limitUsed := s.segs.limit } }

/-- What SYNC brings up to date: C12, the segments, and the fetches that a CACHE command has covered
(46_system.md R496, 70_reset_and_hazards.md R631 to R634). -/
def State.syncAll (s : State) : State :=
  { s.syncSegments with
    c12Used := s.code[12]'(by decide)
    stale := s.stale.filter fun e => !e.invalidated }

/-- SYNC, whatever its predicate (46_system.md R496). -/
def execSync (_q : Pred) (s : State) : Result := .next (s.syncAll.setPc (s.npc 2))

/-- MEMSB, whatever its predicate (46_system.md R497). -/
def execMemsb (_q : Pred) (s : State) : Result := .next (s.syncSegments.setPc (s.npc 2))

/-- MEMDB: in a one-core model it only goes on (46_system.md R499). -/
def execMemdb (_q : Pred) (s : State) : Result := .next (s.setPc (s.npc 2))

/-! ### CACHE -/

/-- The instruction cache entries of the addresses that `covers` names are invalidated; the fetches see it after the
next SYNC (20_memory.md R117). -/
def State.invalidate (s : State) (covers : Nat → Bool) : State :=
  { s with stale := s.stale.map fun e => { e with invalidated := e.invalidated || covers e.addr } }

/-- The physical addresses in the cache line of a program counter value; none where it does not translate
(46_system.md R498; log 40). -/
def State.lineOf (s : State) (a : Word) (b : Nat) : Bool :=
  match s.translate (s.fetchVa 0 a) with
  | .hit p => b == p.pa.toNat || Config.sameCacheLine p.pa.toNat b
  | _ => false

/-- CACHE 0: invalidate the instruction cache (46_system.md R498). -/
def execCacheInvI (q : Pred) (s : State) : Result :=
  guarded q 4 [] s fun npc => .next ((s.invalidate fun _ => true).setPc npc)

/-- CACHE 1: invalidate an instruction cache line (46_system.md R498). -/
def execCacheInvILine (q : Pred) (ra : Reg) (s : State) : Result :=
  guarded q 4 [ra] s fun npc => .next ((s.invalidate (s.lineOf (s.reg ra))).setPc npc)

/-- CACHE 32: the data cache is invisible in a one-core model (46_system.md R498, 20_memory.md R116; log 20). -/
def execCacheInvD (q : Pred) (s : State) : Result := guarded q 4 [] s fun npc => .next (s.setPc npc)

/-- CACHE 33: as CACHE 32, one line (46_system.md R498, 20_memory.md R116; log 20). -/
def execCacheInvDLine (q : Pred) (ra : Reg) (s : State) : Result := guarded q 4 [ra] s fun npc => .next (s.setPc npc)

/-! ### NOP and STP -/

/-- NOP, the byte 10h (46_system.md R506). -/
def execNop1 (s : State) : Result := .next (s.setPc (s.npc 1))

/-- NOP, two bytes, whatever its predicate (46_system.md R506). -/
def execNop2 (_q : Pred) (s : State) : Result := .next (s.setPc (s.npc 2))

/-- STP: the clock pattern; 0 stops the clock (46_system.md R512). -/
def execStp (q : Pred) (imm : BitVec 16) (s : State) : Result :=
  guarded q 4 [] s fun npc =>
    .next { s with clk := { rate := imm, stopped := s.clk.stopped || imm == 0 }, pc := npc }

end Sys2Proof.Machine
end

