-- ==== Sys2Proof/Machine/TlbOps.lean ====
section
/-! DEFINITION. The TLB command instruction, one meaning for each command (46_system.md R520 to R530). -/

namespace Sys2Proof.Machine

/-- A TLB command of 4 bytes, kernel only; the registers r28 to r31 need no check of their own (46_system.md R520;
log 33). -/
def tlbCommand (q : Pred) (s : State) (k : Word → Result) : Result :=
  guarded q 4 [] s fun npc => privileged s (k npc)

/-- The entry that the holding registers describe (10_state.md R57, 46_system.md R524). -/
def heldEntry (t : Tlb) : TlbEntry :=
  { virtPage := t.virtPage.setWidth 52
    physPage := t.physPage.setWidth 52
    asid := t.asidReg.extractLsb' 8 8
    c := t.asidReg.extractLsb' 4 3
    g := t.asidReg.getLsbD 2
    d := t.asidReg.getLsbD 1
    v := t.asidReg.getLsbD 0 }

/-- The ASID holding register that describes an entry (46_system.md R523). -/
def heldAsid (e : TlbEntry) : Word :=
  (zext e.asid <<< 8) ||| (zext e.c <<< 4) ||| (wordOfBool e.g <<< 2) ||| (wordOfBool e.d <<< 1) ||| wordOfBool e.v

/-- The Random register: a draw in Wired..7 (10_state.md R57; log 16). -/
def State.randomWay (s : State) : BitVec 3 :=
  BitVec.ofNat 3 (s.tlb.wired.toNat + Config.randomDraw s.clock % (8 - s.tlb.wired.toNat))

/-- `VirtPage[2N+2 : 2N]`: the set that the lookup will search (46_system.md R524). -/
def heldSet (t : Tlb) : BitVec 3 := t.virtPage.extractLsb' (2 * t.pageSize.toNat) 3

/-- An entry written from the holding registers. -/
def State.writeEntry (s : State) (i : BitVec 6) : State :=
  { s with tlb := { s.tlb with entries := s.tlb.entries.set i.toNat (heldEntry s.tlb) i.isLt } }

/-- TLB command 0, no operation (46_system.md R521). -/
def execTlbnop (q : Pred) (s : State) : Result := tlbCommand q s fun npc => .next (s.setPc npc)

/-- TLBPB: Index becomes a free value (46_system.md R522; log 16). -/
def execTlbpb (q : Pred) (s : State) : Result :=
  tlbCommand q s fun npc => .next { s with tlb := { s.tlb with index := Config.probeIndex s.clock }, pc := npc }

/-- TLBRD (46_system.md R523). -/
def execTlbrd (q : Pred) (s : State) : Result :=
  tlbCommand q s fun npc =>
    let e := s.tlbEntry s.tlb.index
    .next { s with
      tlb := { s.tlb with virtPage := zext e.virtPage, physPage := zext e.physPage, asidReg := heldAsid e }
      pc := npc }

/-- TLBWR: a random way not below Wired (46_system.md R524). -/
def execTlbwr (q : Pred) (s : State) : Result :=
  tlbCommand q s fun npc => .next ((s.writeEntry (tlbSlot s.randomWay (heldSet s.tlb))).setPc npc)

/-- TLBWI (46_system.md R525). -/
def execTlbwi (q : Pred) (s : State) : Result :=
  tlbCommand q s fun npc => .next ((s.writeEntry s.tlb.index).setPc npc)

/-- TLBEN (46_system.md R526). -/
def execTlben (q : Pred) (s : State) : Result :=
  tlbCommand q s fun npc => .next { s with tlb := { s.tlb with enabled := true }, pc := npc }

/-- TLBDIS (46_system.md R527). -/
def execTlbdis (q : Pred) (s : State) : Result :=
  tlbCommand q s fun npc => .next { s with tlb := { s.tlb with enabled := false }, pc := npc }

/-- `tlbreg[Tn]`; numbers 6 and 12 to 15 are none (10_state.md R57, 46_system.md R528). -/
def State.tlbRegister (s : State) (tn : BitVec 4) : Option Word :=
  match tn.toNat with
  | 0 => some (zext s.tlb.wired)
  | 1 => some (zext s.tlb.index)
  | 2 => some (zext s.randomWay)
  | 3 => some (zext s.tlb.pageSize)
  | 4 => some s.tlb.virtPage
  | 5 => some s.tlb.physPage
  | 7 => some s.tlb.asidReg
  | 8 => some s.tlb.dma
  | 9 => some s.tlb.ima
  | 10 => some s.tlb.pta
  | 11 => some s.tlb.ptc
  | _ => none

/-- TLBRDREG; an unlisted register is refused (46_system.md R528). -/
def execTlbrdreg (q : Pred) (tn : BitVec 4) (rt : Reg) (s : State) : Result :=
  tlbCommand q s fun npc =>
    match s.tlbRegister tn with
    | some v => finishReg rt v npc s
    | none => .refused .tlbRegister

/-- `tlbreg[Tn] <- v`, truncated to the register's width; a write of Random is discarded (46_system.md R529;
log 39). -/
def setTlbRegister (t : Tlb) (tn : BitVec 4) (v : Word) : Option Tlb :=
  match tn.toNat with
  | 0 => some { t with wired := v.setWidth 3 }
  | 1 => some { t with index := v.setWidth 6 }
  | 2 => some t
  | 3 => some { t with pageSize := v.setWidth 3 }
  | 4 => some { t with virtPage := v }
  | 5 => some { t with physPage := v }
  | 7 => some { t with asidReg := v }
  | 8 => some { t with dma := v }
  | 9 => some { t with ima := v }
  | 10 => some { t with pta := v }
  | 11 => some { t with ptc := v }
  | _ => none

/-- TLBWRREG; an unlisted register is refused (46_system.md R529). -/
def execTlbwrreg (q : Pred) (tn : BitVec 4) (rb : Reg) (s : State) : Result :=
  tlbCommand q s fun npc =>
    match setTlbRegister s.tlb tn (s.reg rb) with
    | some t => .next { s with tlb := t, pc := npc }
    | none => .refused .tlbRegister

/-- TLBINV: every V bit cleared (46_system.md R530). -/
def execTlbinv (q : Pred) (s : State) : Result :=
  tlbCommand q s fun npc =>
    .next { s with tlb := { s.tlb with entries := s.tlb.entries.map fun e => { e with v := false } }, pc := npc }

end Sys2Proof.Machine
end

