-- ==== Sys2Proof/Machine/Dispatch.lean ====
section
/-! DEFINITION. One arm for each instruction: a call of its meaning. -/

namespace Sys2Proof.Machine

def exec (i : Instr) (s : State) : Host.Outcome State Fault Refusal :=
  match i with
  -- One-byte specials and immediate prefixes (R133, R139)
  | .brk => Sys2Proof.Machine.execBrk s
  | .nop1 => Sys2Proof.Machine.execNop1 s
  | .rts1 => Sys2Proof.Machine.execRts1 s
  | .imm16 const => Sys2Proof.Machine.execImm16 const s
  | .imm24 const => Sys2Proof.Machine.execImm24 const s
  | .imm32 const => Sys2Proof.Machine.execImm32 const s
  | .imm40 const => Sys2Proof.Machine.execImm40 const s
  | .imm48 const => Sys2Proof.Machine.execImm48 const s
  | .imm56 const => Sys2Proof.Machine.execImm56 const s
  | .imm64 const => Sys2Proof.Machine.execImm64 const s
  -- Compares (41_compare_predicate.md)
  | .tst q pt ra => Sys2Proof.Machine.execTst q pt ra s
  | .cmp q pt ra rb => Sys2Proof.Machine.execCmp q pt ra rb s
  | .cmpi q pt ra imm => Sys2Proof.Machine.execCmpi q pt ra imm s
  -- Relative branch (R181)
  | .br q disp => Sys2Proof.Machine.execBr q disp s
  -- Register-register arithmetic, opcode 40h (42_arithmetic.md)
  | .add q rt ra rb => Sys2Proof.Machine.execAdd q rt ra rb s
  | .sub q rt ra rb => Sys2Proof.Machine.execSub q rt ra rb s
  | .mul q rt ra rb => Sys2Proof.Machine.execMul q rt ra rb s
  | .div q rt ra rb => Sys2Proof.Machine.execDiv q rt ra rb s
  | .addu q rt ra rb => Sys2Proof.Machine.execAddu q rt ra rb s
  | .subu q rt ra rb => Sys2Proof.Machine.execSubu q rt ra rb s
  | .mulu q rt ra rb => Sys2Proof.Machine.execMulu q rt ra rb s
  | .divu q rt ra rb => Sys2Proof.Machine.execDivu q rt ra rb s
  | .addu2 q rt ra rb => Sys2Proof.Machine.execAddu2 q rt ra rb s
  | .addu4 q rt ra rb => Sys2Proof.Machine.execAddu4 q rt ra rb s
  | .addu8 q rt ra rb => Sys2Proof.Machine.execAddu8 q rt ra rb s
  | .addu16 q rt ra rb => Sys2Proof.Machine.execAddu16 q rt ra rb s
  | .min q rt ra rb => Sys2Proof.Machine.execMin q rt ra rb s
  | .max q rt ra rb => Sys2Proof.Machine.execMax q rt ra rb s
  -- Opcode 41h (R486, R543)
  | .cpuid q rt ra => Sys2Proof.Machine.execCpuid q rt ra s
  | .redor q rt ra => Sys2Proof.Machine.execRedor q rt ra s
  | .redand q rt ra => Sys2Proof.Machine.execRedand q rt ra s
  | .par q rt ra => Sys2Proof.Machine.execPar q rt ra s
  -- Predicate logic, opcode 42h (R229)
  | .pand q bt ba bb => Sys2Proof.Machine.execPand q bt ba bb s
  | .por q bt ba bb => Sys2Proof.Machine.execPor q bt ba bb s
  | .peor q bt ba bb => Sys2Proof.Machine.execPeor q bt ba bb s
  | .pnand q bt ba bb => Sys2Proof.Machine.execPnand q bt ba bb s
  | .pnor q bt ba bb => Sys2Proof.Machine.execPnor q bt ba bb s
  | .penor q bt ba bb => Sys2Proof.Machine.execPenor q bt ba bb s
  | .pandc q bt ba bb => Sys2Proof.Machine.execPandc q bt ba bb s
  | .porc q bt ba bb => Sys2Proof.Machine.execPorc q bt ba bb s
  -- Register-immediate arithmetic (42_arithmetic.md)
  | .biti q pt ra imm => Sys2Proof.Machine.execBiti q pt ra imm s
  | .adduiShort q rt imm => Sys2Proof.Machine.execAdduiShort q rt imm s
  | .addi q rt ra imm => Sys2Proof.Machine.execAddi q rt ra imm s
  | .subi q rt ra imm => Sys2Proof.Machine.execSubi q rt ra imm s
  | .muli q rt ra imm => Sys2Proof.Machine.execMuli q rt ra imm s
  | .divi q rt ra imm => Sys2Proof.Machine.execDivi q rt ra imm s
  | .addui q rt ra imm => Sys2Proof.Machine.execAddui q rt ra imm s
  | .subui q rt ra imm => Sys2Proof.Machine.execSubui q rt ra imm s
  | .mului q rt ra imm => Sys2Proof.Machine.execMului q rt ra imm s
  | .divui q rt ra imm => Sys2Proof.Machine.execDivui q rt ra imm s
  -- Logic (43_logic_shift_bitfield.md)
  | .and q rt ra rb => Sys2Proof.Machine.execAnd q rt ra rb s
  | .or q rt ra rb => Sys2Proof.Machine.execOr q rt ra rb s
  | .eor q rt ra rb => Sys2Proof.Machine.execEor q rt ra rb s
  | .nand q rt ra rb => Sys2Proof.Machine.execNand q rt ra rb s
  | .nor q rt ra rb => Sys2Proof.Machine.execNor q rt ra rb s
  | .enor q rt ra rb => Sys2Proof.Machine.execEnor q rt ra rb s
  | .andc q rt ra rb => Sys2Proof.Machine.execAndc q rt ra rb s
  | .orc q rt ra rb => Sys2Proof.Machine.execOrc q rt ra rb s
  | .mlo q rt ra rb rc => Sys2Proof.Machine.execMlo q rt ra rb rc s
  | .andi q rt ra imm => Sys2Proof.Machine.execAndi q rt ra imm s
  | .ori q rt ra imm => Sys2Proof.Machine.execOri q rt ra imm s
  | .eori q rt ra imm => Sys2Proof.Machine.execEori q rt ra imm s
  -- Shifts and rotates, opcode 58h (R320)
  | .shl q rt ra rb => Sys2Proof.Machine.execShl q rt ra rb s
  | .shr q rt ra rb => Sys2Proof.Machine.execShr q rt ra rb s
  | .shlu q rt ra rb => Sys2Proof.Machine.execShlu q rt ra rb s
  | .shru q rt ra rb => Sys2Proof.Machine.execShru q rt ra rb s
  | .rol q rt ra rb => Sys2Proof.Machine.execRol q rt ra rb s
  | .ror q rt ra rb => Sys2Proof.Machine.execRor q rt ra rb s
  | .shli q rt ra imm => Sys2Proof.Machine.execShli q rt ra imm s
  | .shri q rt ra imm => Sys2Proof.Machine.execShri q rt ra imm s
  | .shlui q rt ra imm => Sys2Proof.Machine.execShlui q rt ra imm s
  | .shrui q rt ra imm => Sys2Proof.Machine.execShrui q rt ra imm s
  | .roli q rt ra imm => Sys2Proof.Machine.execRoli q rt ra imm s
  | .rori q rt ra imm => Sys2Proof.Machine.execRori q rt ra imm s
  -- Scaled add immediate, load immediate, multiplex
  | .addui2 q rt ra imm => Sys2Proof.Machine.execAddui2 q rt ra imm s
  | .addui4 q rt ra imm => Sys2Proof.Machine.execAddui4 q rt ra imm s
  | .addui8 q rt ra imm => Sys2Proof.Machine.execAddui8 q rt ra imm s
  | .addui16 q rt ra imm => Sys2Proof.Machine.execAddui16 q rt ra imm s
  | .ldi q rt imm => Sys2Proof.Machine.execLdi q rt imm s
  | .mux q rt ra rb rc => Sys2Proof.Machine.execMux q rt ra rb rc s
  -- Floating point names of the opcode map, no format given (R545, R550)
  | .fmac q => Sys2Proof.Machine.execFmac q s
  | .fmov q => Sys2Proof.Machine.execFmov q s
  | .ftoi q => Sys2Proof.Machine.execFtoi q s
  | .itof q => Sys2Proof.Machine.execItof q s
  | .fneg q => Sys2Proof.Machine.execFneg q s
  | .fabs q => Sys2Proof.Machine.execFabs q s
  | .fsign q => Sys2Proof.Machine.execFsign q s
  | .fman q => Sys2Proof.Machine.execFman q s
  | .fnabs q => Sys2Proof.Machine.execFnabs q s
  | .fstat q => Sys2Proof.Machine.execFstat q s
  | .frm q => Sys2Proof.Machine.execFrm q s
  | .fcmp q => Sys2Proof.Machine.execFcmp q s
  | .fadd q => Sys2Proof.Machine.execFadd q s
  | .fsub q => Sys2Proof.Machine.execFsub q s
  | .fmul q => Sys2Proof.Machine.execFmul q s
  | .fdiv q => Sys2Proof.Machine.execFdiv q s
  | .fcmps q => Sys2Proof.Machine.execFcmps q s
  | .fadds q => Sys2Proof.Machine.execFadds q s
  | .fsubs q => Sys2Proof.Machine.execFsubs q s
  | .fmuls q => Sys2Proof.Machine.execFmuls q s
  | .fdivs q => Sys2Proof.Machine.execFdivs q s
  | .fmovs q => Sys2Proof.Machine.execFmovs q s
  | .ftois q => Sys2Proof.Machine.execFtois q s
  | .itofs q => Sys2Proof.Machine.execItofs q s
  | .fnegs q => Sys2Proof.Machine.execFnegs q s
  | .fabss q => Sys2Proof.Machine.execFabss q s
  | .fsigns q => Sys2Proof.Machine.execFsigns q s
  | .fmans q => Sys2Proof.Machine.execFmans q s
  | .fnabss q => Sys2Proof.Machine.execFnabss q s
  | .ftx q => Sys2Proof.Machine.execFtx q s
  | .fcx q => Sys2Proof.Machine.execFcx q s
  | .fex q => Sys2Proof.Machine.execFex q s
  | .fdx q => Sys2Proof.Machine.execFdx q s
  | .ftst q pt => Sys2Proof.Machine.execFtst q pt s
  | .fstst q pt => Sys2Proof.Machine.execFstst q pt s
  | .fscmp q pt => Sys2Proof.Machine.execFscmp q pt s
  -- Loads and stores, register indirect with displacement (44_load_store.md)
  | .lb q sg rt ra disp => Sys2Proof.Machine.execLb q sg rt ra disp s
  | .lbu q sg rt ra disp => Sys2Proof.Machine.execLbu q sg rt ra disp s
  | .lc q sg rt ra disp => Sys2Proof.Machine.execLc q sg rt ra disp s
  | .lcu q sg rt ra disp => Sys2Proof.Machine.execLcu q sg rt ra disp s
  | .lh q sg rt ra disp => Sys2Proof.Machine.execLh q sg rt ra disp s
  | .lhu q sg rt ra disp => Sys2Proof.Machine.execLhu q sg rt ra disp s
  | .lw q sg rt ra disp => Sys2Proof.Machine.execLw q sg rt ra disp s
  | .lfs q => Sys2Proof.Machine.execLfs q s
  | .lfd q => Sys2Proof.Machine.execLfd q s
  | .lvwar q sg rt ra disp => Sys2Proof.Machine.execLvwar q sg rt ra disp s
  | .swcr q sg rs ra disp => Sys2Proof.Machine.execSwcr q sg rs ra disp s
  | .jci q sg ct ra disp => Sys2Proof.Machine.execJci q sg ct ra disp s
  | .jhi q sg ct ra disp => Sys2Proof.Machine.execJhi q sg ct ra disp s
  | .jwi q sg ct ra disp => Sys2Proof.Machine.execJwi q sg ct ra disp s
  | .lws q sg spr ra disp => Sys2Proof.Machine.execLws q sg spr ra disp s
  | .lcl q sg tgt ra disp => Sys2Proof.Machine.execLcl q sg tgt ra disp s
  | .sb q sg rs ra disp => Sys2Proof.Machine.execSb q sg rs ra disp s
  | .sc q sg rs ra disp => Sys2Proof.Machine.execSc q sg rs ra disp s
  | .sh q sg rs ra disp => Sys2Proof.Machine.execSh q sg rs ra disp s
  | .sw q sg rs ra disp => Sys2Proof.Machine.execSw q sg rs ra disp s
  | .sfs q => Sys2Proof.Machine.execSfs q s
  | .sfd q => Sys2Proof.Machine.execSfd q s
  | .sti q sg imm ra disp => Sys2Proof.Machine.execSti q sg imm ra disp s
  | .cas q rt ra rb rc disp => Sys2Proof.Machine.execCas q rt ra rb rc disp s
  -- Memory string instructions (45_string.md)
  | .stset q sg sz dir ra rb => Sys2Proof.Machine.execStset q sg sz dir ra rb s
  | .stmov q sg sz dir ra rb rc => Sys2Proof.Machine.execStmov q sg sz dir ra rb rc s
  | .stcmp q sg sz dir ra rb rc => Sys2Proof.Machine.execStcmp q sg sz dir ra rb rc s
  | .stfnd q sg sz dir ra rb rc => Sys2Proof.Machine.execStfnd q sg sz dir ra rb rc s
  | .ldis q spr imm => Sys2Proof.Machine.execLdis q spr imm s
  | .sws q sg spr ra disp => Sys2Proof.Machine.execSws q sg spr ra disp s
  -- CACHE, one row for each command (R498)
  | .cacheInvI q => Sys2Proof.Machine.execCacheInvI q s
  | .cacheInvILine q ra => Sys2Proof.Machine.execCacheInvILine q ra s
  | .cacheInvD q => Sys2Proof.Machine.execCacheInvD q s
  | .cacheInvDLine q ra => Sys2Proof.Machine.execCacheInvDLine q ra s
  -- Jumps, returns, LOOP, SYS, INT (40_control_transfer.md, 46_system.md)
  | .jsr3 q crt cr => Sys2Proof.Machine.execJsr3 q crt cr s
  | .jsr5 q crt cr off => Sys2Proof.Machine.execJsr5 q crt cr off s
  | .jsr6 q crt cr off => Sys2Proof.Machine.execJsr6 q crt cr off s
  | .rts3 q cr im4 => Sys2Proof.Machine.execRts3 q cr im4 s
  | .loop q disp => Sys2Proof.Machine.execLoop q disp s
  | .sys q cr crt off => Sys2Proof.Machine.execSys q cr crt off s
  | .int q cr crt off => Sys2Proof.Machine.execInt q cr crt off s
  -- Register moves, counts, extensions, opcode A7h
  | .mov q rt ra => Sys2Proof.Machine.execMov q rt ra s
  | .neg q rt ra => Sys2Proof.Machine.execNeg q rt ra s
  | .not q rt ra => Sys2Proof.Machine.execNot q rt ra s
  | .abs q rt ra => Sys2Proof.Machine.execAbs q rt ra s
  | .sgn q rt ra => Sys2Proof.Machine.execSgn q rt ra s
  | .cntlz q rt ra => Sys2Proof.Machine.execCntlz q rt ra s
  | .cntlo q rt ra => Sys2Proof.Machine.execCntlo q rt ra s
  | .cntpop q rt ra => Sys2Proof.Machine.execCntpop q rt ra s
  | .sxb q rt ra => Sys2Proof.Machine.execSxb q rt ra s
  | .sxc q rt ra => Sys2Proof.Machine.execSxc q rt ra s
  | .sxh q rt ra => Sys2Proof.Machine.execSxh q rt ra s
  | .com q rt ra => Sys2Proof.Machine.execCom q rt ra s
  | .zxb q rt ra => Sys2Proof.Machine.execZxb q rt ra s
  | .zxc q rt ra => Sys2Proof.Machine.execZxc q rt ra s
  | .zxh q rt ra => Sys2Proof.Machine.execZxh q rt ra s
  | .mfspr q rt spr => Sys2Proof.Machine.execMfspr q rt spr s
  | .mtspr q spr ra => Sys2Proof.Machine.execMtspr q spr ra s
  -- Bit fields, opcode AAh (R350)
  | .bfins q rt ra mb me => Sys2Proof.Machine.execBfins q rt ra mb me s
  | .bfset q rt ra mb me => Sys2Proof.Machine.execBfset q rt ra mb me s
  | .bfclr q rt ra mb me => Sys2Proof.Machine.execBfclr q rt ra mb me s
  | .bfchg q rt ra mb me => Sys2Proof.Machine.execBfchg q rt ra mb me s
  | .bfextu q rt ra mb me => Sys2Proof.Machine.execBfextu q rt ra mb me s
  | .bfext q rt ra mb me => Sys2Proof.Machine.execBfext q rt ra mb me s
  | .bfinsi q rt imm mb me => Sys2Proof.Machine.execBfinsi q rt imm mb me s
  | .movs q sprt spr => Sys2Proof.Machine.execMovs q sprt spr s
  -- Volatile loads
  | .lvb q sg rt ra disp => Sys2Proof.Machine.execLvb q sg rt ra disp s
  | .lvc q sg rt ra disp => Sys2Proof.Machine.execLvc q sg rt ra disp s
  | .lvh q sg rt ra disp => Sys2Proof.Machine.execLvh q sg rt ra disp s
  | .lvw q sg rt ra disp => Sys2Proof.Machine.execLvw q sg rt ra disp s
  -- Scaled indexed loads, jumps and stores
  | .lbx q sg scale rt ra rb => Sys2Proof.Machine.execLbx q sg scale rt ra rb s
  | .lbux q sg scale rt ra rb => Sys2Proof.Machine.execLbux q sg scale rt ra rb s
  | .lcx q sg scale rt ra rb => Sys2Proof.Machine.execLcx q sg scale rt ra rb s
  | .lcux q sg scale rt ra rb => Sys2Proof.Machine.execLcux q sg scale rt ra rb s
  | .lhx q sg scale rt ra rb => Sys2Proof.Machine.execLhx q sg scale rt ra rb s
  | .lhux q sg scale rt ra rb => Sys2Proof.Machine.execLhux q sg scale rt ra rb s
  | .lwx q sg scale rt ra rb => Sys2Proof.Machine.execLwx q sg scale rt ra rb s
  | .jcix q sg ct ra rb => Sys2Proof.Machine.execJcix q sg ct ra rb s
  | .jhix q sg ct ra rb => Sys2Proof.Machine.execJhix q sg ct ra rb s
  | .jwix q sg ct ra rb => Sys2Proof.Machine.execJwix q sg ct ra rb s
  | .sbx q sg scale rs ra rb => Sys2Proof.Machine.execSbx q sg scale rs ra rb s
  | .scx q sg scale rs ra rb => Sys2Proof.Machine.execScx q sg scale rs ra rb s
  | .shx q sg scale rs ra rb => Sys2Proof.Machine.execShx q sg scale rs ra rb s
  | .swx q sg scale rs ra rb => Sys2Proof.Machine.execSwx q sg scale rs ra rb s
  | .stix q scale imm ra rb => Sys2Proof.Machine.execStix q scale imm ra rb s
  | .inc q sg o3 sz ra disp amt => Sys2Proof.Machine.execInc q sg o3 sz ra disp amt s
  -- Stack names of the opcode map, no page given (R547)
  | .push q => Sys2Proof.Machine.execPush q s
  | .pea q => Sys2Proof.Machine.execPea q s
  | .pop q => Sys2Proof.Machine.execPop q s
  | .link q => Sys2Proof.Machine.execLink q s
  | .unlink q => Sys2Proof.Machine.execUnlink q s
  -- Short LW, TLB, system
  | .lwShort q sg rt ra => Sys2Proof.Machine.execLwShort q sg rt ra s
  | .tlbnop q => Sys2Proof.Machine.execTlbnop q s
  | .tlbpb q => Sys2Proof.Machine.execTlbpb q s
  | .tlbrd q => Sys2Proof.Machine.execTlbrd q s
  | .tlbwr q => Sys2Proof.Machine.execTlbwr q s
  | .tlbwi q => Sys2Proof.Machine.execTlbwi q s
  | .tlben q => Sys2Proof.Machine.execTlben q s
  | .tlbdis q => Sys2Proof.Machine.execTlbdis q s
  | .tlbrdreg q tn rt => Sys2Proof.Machine.execTlbrdreg q tn rt s
  | .tlbwrreg q tn rb => Sys2Proof.Machine.execTlbwrreg q tn rb s
  | .tlbinv q => Sys2Proof.Machine.execTlbinv q s
  | .nop2 q => Sys2Proof.Machine.execNop2 q s
  | .rts4 q cr im4 adj => Sys2Proof.Machine.execRts4 q cr im4 adj s
  | .rte q => Sys2Proof.Machine.execRte q s
  | .rti q => Sys2Proof.Machine.execRti q s
  | .bcdadd q rt ra rb => Sys2Proof.Machine.execBcdadd q rt ra rb s
  | .bcdsub q rt ra rb => Sys2Proof.Machine.execBcdsub q rt ra rb s
  | .bcdmul q rt ra rb => Sys2Proof.Machine.execBcdmul q rt ra rb s
  | .stp q imm => Sys2Proof.Machine.execStp q imm s
  | .sync q => Sys2Proof.Machine.execSync q s
  | .memsb q => Sys2Proof.Machine.execMemsb q s
  | .memdb q => Sys2Proof.Machine.execMemdb q s
  | .cli q => Sys2Proof.Machine.execCli q s
  | .sei q => Sys2Proof.Machine.execSei q s
  | .rtd q => Sys2Proof.Machine.execRtd q s
  | .immFF q => Sys2Proof.Machine.execImmFF q s

end Sys2Proof.Machine
end

