-- ==== Sys2Proof/Decode.lean ====
section
/-! DEFINITION. Decoding and encoding (30_encoding.md). An instruction is read as one little-endian number, the
predicate byte in bits 7..0 (R130); decoding is total and rejects by name; the encoder writes the same tables back. -/

namespace Sys2Proof

/-! ### Bytes and fields -/

/-- Bits `lo + w - 1 .. lo` of an instruction value (R10). -/
def field (v lo w : Nat) : BitVec w := BitVec.ofNat w (v / 2 ^ lo)

/-- The little-endian number of a list of bytes (R130). -/
def valueOfBytes : List Byte → Nat
  | [] => 0
  | b :: bs => b.toNat + 256 * valueOfBytes bs

/-- The first `n` bytes of a number, lowest first (R130). -/
def bytesOfValue : Nat → Nat → List Byte
  | 0, _ => []
  | n + 1, v => BitVec.ofNat 8 v :: bytesOfValue n (v / 256)

/-! ### The predicate byte -/

/-- What a first byte is (R133). `imm m` is the prefix of `m` constant bytes. -/
inductive FirstByte where
  | brk
  | nop
  | rts
  | imm (m : Nat)
  | pred (q : Pred)
  | reserved
  deriving DecidableEq, Repr

/-- The condition of a code 2..11 or 13 (10_state.md R33); 12, 14 and 15 are reserved (R136). -/
def condOfCode (n : Nat) : Option Cond :=
  match n with
  | 2 => some .eq
  | 3 => some .ne
  | 4 => some .le
  | 5 => some .gt
  | 6 => some .ge
  | 7 => some .lt
  | 8 => some .leu
  | 9 => some .gtu
  | 10 => some .geu
  | 11 => some .ltu
  | 13 => some .sig
  | _ => none

/-- The code of a condition (10_state.md R33). -/
def codeOfCond (c : Cond) : Nat :=
  match c with
  | .eq => 2
  | .ne => 3
  | .le => 4
  | .gt => 5
  | .ge => 6
  | .lt => 7
  | .leu => 8
  | .gtu => 9
  | .geu => 10
  | .ltu => 11
  | .sig => 13

/-- R133: the table of special predicate bytes. -/
def firstByte (b : Byte) : FirstByte :=
  let pn := b.toNat / 16
  let pc := b.toNat % 16
  if pc = 0 then
    if pn = 0 then .brk
    else if pn = 1 then .nop
    else if pn ≤ 8 then .imm (pn - 1)
    else if pn = 9 then .pred .never
    else .reserved
  else if pc = 1 then
    if pn = 0 then .pred .always
    else if pn = 1 then .rts
    else .reserved
  else
    match condOfCode pc with
    | some c => .pred (.test (BitVec.ofNat 4 pn) c)
    | none => .reserved

/-- The byte of an ordinary predicate (R132, R133). -/
def predByte (q : Pred) : Nat :=
  match q with
  | .never => 0x90
  | .always => 0x01
  | .test p c => 16 * p.toNat + codeOfCond c

/-! ### Small code tables -/

/-- Element sizes of the string instructions, O3 modulo 4 (45_string.md R460). -/
def sizeOfCode (b : BitVec 2) : Size :=
  match b.toNat with
  | 0 => .byte
  | 1 => .char
  | 2 => .half
  | _ => .word

/-- The code of an element size (45_string.md R460). -/
def codeOfSize (s : Size) : Nat :=
  match s with
  | .byte => 0
  | .char => 1
  | .half => 2
  | .word => 3

/-- O3 bit 2: decrementing (45_string.md R460). -/
def directionOfCode (b : BitVec 1) : Direction := if b = 0 then .up else .down

/-- The code of a direction (45_string.md R460). -/
def codeOfDirection (d : Direction) : Nat :=
  match d with
  | .up => 0
  | .down => 1

/-! ### Decoding -/

/-- Why a sequence of bytes is no instruction of the table. -/
inductive DecodeError where
  /-- An opcode byte with no assignment (R137, R160): vector 250. -/
  | undefinedOpcode
  /-- An assigned opcode with an unassigned function code (R137, R161): vector 250. -/
  | undefinedFunction
  /-- A reserved predicate byte (R136): refused. -/
  | reservedPredicate
  /-- TST with O2 = 3, CMP with Opc4 above 2 (47_map_only.md R545), or a function of a map-only sub-table that the
  map does not name: refused, the encodings of the floating point names are not given. -/
  | undescribedFloat
  deriving DecidableEq, Repr

/-- The answer of the decoder. -/
inductive Decoded where
  | ok (i : Instr)
  | error (e : DecodeError)
  deriving DecidableEq, Repr

/-- Opcode 40h by Func6 (R161). -/
def decodeArith (q : Pred) (func : Nat) (rt ra rb : Reg) : Decoded :=
  match func with
  | 0 => .ok (.add q rt ra rb)
  | 1 => .ok (.sub q rt ra rb)
  | 2 => .ok (.mul q rt ra rb)
  | 3 => .ok (.div q rt ra rb)
  | 4 => .ok (.addu q rt ra rb)
  | 5 => .ok (.subu q rt ra rb)
  | 6 => .ok (.mulu q rt ra rb)
  | 7 => .ok (.divu q rt ra rb)
  | 8 => .ok (.addu2 q rt ra rb)
  | 9 => .ok (.addu4 q rt ra rb)
  | 10 => .ok (.addu8 q rt ra rb)
  | 11 => .ok (.addu16 q rt ra rb)
  | 16 => .ok (.min q rt ra rb)
  | 17 => .ok (.max q rt ra rb)
  | _ => .error .undefinedFunction

/-- Opcode 41h by Func4 (R161). -/
def decodeIdent (q : Pred) (func : Nat) (rt ra : Reg) : Decoded :=
  match func with
  | 0 => .ok (.cpuid q rt ra)
  | 1 => .ok (.redor q rt ra)
  | 2 => .ok (.redand q rt ra)
  | 3 => .ok (.par q rt ra)
  | _ => .error .undefinedFunction

/-- Opcode 42h by Func6 (R161). -/
def decodePredLogic (q : Pred) (func : Nat) (bt ba bb : PredBit) : Decoded :=
  match func with
  | 0 => .ok (.pand q bt ba bb)
  | 1 => .ok (.por q bt ba bb)
  | 2 => .ok (.peor q bt ba bb)
  | 3 => .ok (.pnand q bt ba bb)
  | 4 => .ok (.pnor q bt ba bb)
  | 5 => .ok (.penor q bt ba bb)
  | 6 => .ok (.pandc q bt ba bb)
  | 7 => .ok (.porc q bt ba bb)
  | _ => .error .undefinedFunction

/-- Opcode 50h by Func6 (R161). -/
def decodeLogic (q : Pred) (func : Nat) (rt ra rb : Reg) : Decoded :=
  match func with
  | 0 => .ok (.and q rt ra rb)
  | 1 => .ok (.or q rt ra rb)
  | 2 => .ok (.eor q rt ra rb)
  | 3 => .ok (.nand q rt ra rb)
  | 4 => .ok (.nor q rt ra rb)
  | 5 => .ok (.enor q rt ra rb)
  | 6 => .ok (.andc q rt ra rb)
  | 7 => .ok (.orc q rt ra rb)
  | _ => .error .undefinedFunction

/-- Opcode 58h by Func6 (R161); the immediate forms hold Imm6 in the Rb field (R143). -/
def decodeShift (q : Pred) (func : Nat) (rt ra rb : BitVec 6) : Decoded :=
  match func with
  | 0 => .ok (.shl q rt ra rb)
  | 1 => .ok (.shr q rt ra rb)
  | 2 => .ok (.shlu q rt ra rb)
  | 3 => .ok (.shru q rt ra rb)
  | 4 => .ok (.rol q rt ra rb)
  | 5 => .ok (.ror q rt ra rb)
  | 16 => .ok (.shli q rt ra rb)
  | 17 => .ok (.shri q rt ra rb)
  | 18 => .ok (.shlui q rt ra rb)
  | 19 => .ok (.shrui q rt ra rb)
  | 20 => .ok (.roli q rt ra rb)
  | 21 => .ok (.rori q rt ra rb)
  | _ => .error .undefinedFunction

/-- Opcode A7h by Func4 (R161, 90_conflicts.md C1). -/
def decodeMove (q : Pred) (func : Nat) (rt ra : Reg) : Decoded :=
  match func with
  | 0 => .ok (.mov q rt ra)
  | 1 => .ok (.neg q rt ra)
  | 2 => .ok (.not q rt ra)
  | 3 => .ok (.abs q rt ra)
  | 4 => .ok (.sgn q rt ra)
  | 5 => .ok (.cntlz q rt ra)
  | 6 => .ok (.cntlo q rt ra)
  | 7 => .ok (.cntpop q rt ra)
  | 8 => .ok (.sxb q rt ra)
  | 9 => .ok (.sxc q rt ra)
  | 10 => .ok (.sxh q rt ra)
  | 11 => .ok (.com q rt ra)
  | 12 => .ok (.zxb q rt ra)
  | 13 => .ok (.zxc q rt ra)
  | 14 => .ok (.zxh q rt ra)
  | _ => .error .undefinedFunction

/-- Opcode AAh by Func4 (R161); BFINSI holds Imm6 in the Ra field (R153). -/
def decodeBitField (q : Pred) (func : Nat) (rt ra mb me : BitVec 6) : Decoded :=
  match func with
  | 0 => .ok (.bfins q rt ra mb me)
  | 1 => .ok (.bfset q rt ra mb me)
  | 2 => .ok (.bfclr q rt ra mb me)
  | 3 => .ok (.bfchg q rt ra mb me)
  | 4 => .ok (.bfextu q rt ra mb me)
  | 5 => .ok (.bfext q rt ra mb me)
  | 6 => .ok (.bfinsi q rt ra mb me)
  | _ => .error .undefinedFunction

/-- Opcode F5h by Func6 (R161). -/
def decodeBcd (q : Pred) (func : Nat) (rt ra rb : Reg) : Decoded :=
  match func with
  | 0 => .ok (.bcdadd q rt ra rb)
  | 1 => .ok (.bcdsub q rt ra rb)
  | 2 => .ok (.bcdmul q rt ra rb)
  | _ => .error .undefinedFunction

/-- Opcode F0h by Cmd4 (R161, 46_system.md R520). -/
def decodeTlb (q : Pred) (cmd : Nat) (tn : BitVec 4) (r : Reg) : Decoded :=
  match cmd with
  | 0 => .ok (.tlbnop q)
  | 1 => .ok (.tlbpb q)
  | 2 => .ok (.tlbrd q)
  | 3 => .ok (.tlbwr q)
  | 4 => .ok (.tlbwi q)
  | 5 => .ok (.tlben q)
  | 6 => .ok (.tlbdis q)
  | 7 => .ok (.tlbrdreg q tn r)
  | 8 => .ok (.tlbwrreg q tn r)
  | 9 => .ok (.tlbinv q)
  | _ => .error .undefinedFunction

/-- Opcode 9Fh by Func6 (R161, 46_system.md R498). -/
def decodeCache (q : Pred) (func : Nat) (ra : Reg) : Decoded :=
  match func with
  | 0 => .ok (.cacheInvI q)
  | 1 => .ok (.cacheInvILine q ra)
  | 32 => .ok (.cacheInvD q)
  | 33 => .ok (.cacheInvDLine q ra)
  | _ => .error .undefinedFunction

/-- Opcode 77h, Double R (R161). PRESUMED: Func4 stands where format R has it (log 27); safe, all are refused. -/
def decodeDouble (q : Pred) (func : Nat) : Decoded :=
  match func with
  | 0 => .ok (.fmov q)
  | 2 => .ok (.ftoi q)
  | 3 => .ok (.itof q)
  | 4 => .ok (.fneg q)
  | 5 => .ok (.fabs q)
  | 6 => .ok (.fsign q)
  | 7 => .ok (.fman q)
  | 8 => .ok (.fnabs q)
  | 12 => .ok (.fstat q)
  | 13 => .ok (.frm q)
  | _ => .error .undescribedFloat

/-- Opcode 78h, float rr (R161). PRESUMED: Func6 stands where format RR has it (log 27); safe, all are refused. -/
def decodeFloatRR (q : Pred) (func : Nat) : Decoded :=
  match func with
  | 7 => .ok (.fcmp q)
  | 8 => .ok (.fadd q)
  | 9 => .ok (.fsub q)
  | 10 => .ok (.fmul q)
  | 11 => .ok (.fdiv q)
  | 23 => .ok (.fcmps q)
  | 24 => .ok (.fadds q)
  | 25 => .ok (.fsubs q)
  | 26 => .ok (.fmuls q)
  | 27 => .ok (.fdivs q)
  | _ => .error .undescribedFloat

/-- Opcode 79h, Single R (R161). PRESUMED: Func4 stands where format R has it (log 27); safe, all are refused. -/
def decodeSingle (q : Pred) (func : Nat) : Decoded :=
  match func with
  | 0 => .ok (.fmovs q)
  | 2 => .ok (.ftois q)
  | 3 => .ok (.itofs q)
  | 4 => .ok (.fnegs q)
  | 5 => .ok (.fabss q)
  | 6 => .ok (.fsigns q)
  | 7 => .ok (.fmans q)
  | 8 => .ok (.fnabss q)
  | 12 => .ok (.ftx q)
  | 13 => .ok (.fcx q)
  | 14 => .ok (.fex q)
  | 15 => .ok (.fdx q)
  | _ => .error .undescribedFloat

/-- Opcodes 0xh by O2 (R147). PRESUMED: O2 = 1 is FTST and O2 = 2 is FSTST, in the order of the map's row
(log 27); safe, both are refused. -/
def decodeTst (q : Pred) (o2 : Nat) (pt : PredReg) (ra : Reg) : Decoded :=
  match o2 with
  | 0 => .ok (.tst q pt ra)
  | 1 => .ok (.ftst q pt)
  | 2 => .ok (.fstst q pt)
  | _ => .error .undescribedFloat

/-- Opcodes 1xh by Opc4 (R147). PRESUMED: Opc4 = 1 is FCMP and Opc4 = 2 is FSCMP, in the order of the map's row
(log 27); safe, both are refused. -/
def decodeCmp (q : Pred) (opc : Nat) (pt : PredReg) (ra rb : Reg) : Decoded :=
  match opc with
  | 0 => .ok (.cmp q pt ra rb)
  | 1 => .ok (.fcmp q)
  | 2 => .ok (.fscmp q pt)
  | _ => .error .undescribedFloat

/-- Opcode 8Dh by Size (R152). -/
def decodeJumpIndirect (q : Pred) (size : Nat) (sg : SegReg) (ct : CodeReg) (ra : Reg) (disp : BitVec 9) : Decoded :=
  match size with
  | 1 => .ok (.jci q sg ct ra disp)
  | 2 => .ok (.jhi q sg ct ra disp)
  | 3 => .ok (.jwi q sg ct ra disp)
  | _ => .error .undefinedFunction

/-- Opcode B7h by Size (R152). -/
def decodeJumpIndexed (q : Pred) (size : Nat) (sg : SegReg) (ct : CodeReg) (ra rb : Reg) : Decoded :=
  match size with
  | 1 => .ok (.jcix q sg ct ra rb)
  | 2 => .ok (.jhix q sg ct ra rb)
  | 3 => .ok (.jwix q sg ct ra rb)
  | _ => .error .undefinedFunction

/-- Opcodes 40h and above, by the opcode map (R160); the fields stand where the formats draw them (R143 to R155). -/
def decodeOpcode (q : Pred) (op v : Nat) : Decoded :=
  let ra : Reg := field v 16 6
  let rb : Reg := field v 22 6
  let rt : Reg := field v 28 6
  let rc : Reg := field v 28 6
  let r22 : Reg := field v 22 6
  let imm12 : BitVec 12 := field v 28 12
  let disp9 : BitVec 9 := field v 28 9
  let sg : SegReg := field v 37 3
  let sc : BitVec 2 := field v 34 2
  let func6 := (field v 34 6).toNat
  let func4 := (field v 28 4).toNat
  match op with
  | 0x40 => decodeArith q func6 rt ra rb
  | 0x41 => decodeIdent q func4 r22 ra
  | 0x42 => decodePredLogic q func6 rt ra rb
  | 0x46 => .ok (.biti q (field v 22 4) ra imm12)
  | 0x47 => .ok (.adduiShort q (field v 16 6) (field v 22 10))
  | 0x48 => .ok (.addi q r22 ra imm12)
  | 0x49 => .ok (.subi q r22 ra imm12)
  | 0x4A => .ok (.muli q r22 ra imm12)
  | 0x4B => .ok (.divi q r22 ra imm12)
  | 0x4C => .ok (.addui q r22 ra imm12)
  | 0x4D => .ok (.subui q r22 ra imm12)
  | 0x4E => .ok (.mului q r22 ra imm12)
  | 0x4F => .ok (.divui q r22 ra imm12)
  | 0x50 => decodeLogic q func6 rt ra rb
  | 0x51 => .ok (.mlo q (field v 34 6) ra rb rc)
  | 0x53 => .ok (.andi q r22 ra imm12)
  | 0x54 => .ok (.ori q r22 ra imm12)
  | 0x55 => .ok (.eori q r22 ra imm12)
  | 0x58 => decodeShift q func6 rt ra rb
  | 0x6B => .ok (.addui2 q r22 ra imm12)
  | 0x6C => .ok (.addui4 q r22 ra imm12)
  | 0x6D => .ok (.addui8 q r22 ra imm12)
  | 0x6E => .ok (.addui16 q r22 ra imm12)
  | 0x6F => .ok (.ldi q (field v 16 6) (field v 22 10))
  | 0x72 => .ok (.mux q (field v 34 6) ra rb rc)
  | 0x76 => .ok (.fmac q)
  | 0x77 => decodeDouble q func4
  | 0x78 => decodeFloatRR q func6
  | 0x79 => decodeSingle q func4
  | 0x80 => .ok (.lb q sg r22 ra disp9)
  | 0x81 => .ok (.lbu q sg r22 ra disp9)
  | 0x82 => .ok (.lc q sg r22 ra disp9)
  | 0x83 => .ok (.lcu q sg r22 ra disp9)
  | 0x84 => .ok (.lh q sg r22 ra disp9)
  | 0x85 => .ok (.lhu q sg r22 ra disp9)
  | 0x86 => .ok (.lw q sg r22 ra disp9)
  | 0x87 => .ok (.lfs q)
  | 0x88 => .ok (.lfd q)
  | 0x8B => .ok (.lvwar q sg r22 ra disp9)
  | 0x8C => .ok (.swcr q sg r22 ra disp9)
  | 0x8D => decodeJumpIndirect q (field v 26 2).toNat sg (field v 22 4) ra disp9
  | 0x8E => .ok (.lws q sg r22 ra disp9)
  | 0x8F => .ok (.lcl q sg r22 ra disp9)
  | 0x90 => .ok (.sb q sg r22 ra disp9)
  | 0x91 => .ok (.sc q sg r22 ra disp9)
  | 0x92 => .ok (.sh q sg r22 ra disp9)
  | 0x93 => .ok (.sw q sg r22 ra disp9)
  | 0x94 => .ok (.sfs q)
  | 0x95 => .ok (.sfd q)
  | 0x96 => .ok (.sti q sg r22 ra disp9)
  | 0x97 => .ok (.cas q (field v 34 6) ra rb rc (field v 40 8))
  | 0x98 => .ok (.stset q sg (sizeOfCode (field v 34 2)) (directionOfCode (field v 36 1)) ra rb)
  | 0x99 => .ok (.stmov q sg (sizeOfCode (field v 34 2)) (directionOfCode (field v 36 1)) ra rb rc)
  | 0x9A => .ok (.stcmp q sg (sizeOfCode (field v 34 2)) (directionOfCode (field v 36 1)) ra rb rc)
  | 0x9B => .ok (.stfnd q sg (sizeOfCode (field v 34 2)) (directionOfCode (field v 36 1)) ra rb rc)
  | 0x9D => .ok (.ldis q (field v 16 6) (field v 22 10))
  | 0x9E => .ok (.sws q sg r22 ra disp9)
  | 0x9F => decodeCache q (field v 26 6).toNat ra
  | 0xA0 => .ok (.jsr3 q (field v 16 4) (field v 20 4))
  | 0xA1 => .ok (.jsr5 q (field v 16 4) (field v 20 4) (field v 24 16))
  | 0xA2 => .ok (.jsr6 q (field v 16 4) (field v 20 4) (field v 24 24))
  | 0xA3 => .ok (.rts3 q (field v 20 4) (field v 16 4))
  | 0xA4 => .ok (.loop q (field v 16 8))
  | 0xA5 => .ok (.sys q (field v 20 4) (field v 16 4) (field v 24 8))
  | 0xA6 => .ok (.int q (field v 20 4) (field v 16 4) (field v 24 8))
  | 0xA7 => decodeMove q func4 r22 ra
  | 0xA8 => .ok (.mfspr q r22 (field v 16 6))
  | 0xA9 => .ok (.mtspr q (field v 22 6) ra)
  | 0xAA => decodeBitField q (field v 40 4).toNat r22 ra (field v 28 6) (field v 34 6)
  | 0xAB => .ok (.movs q (field v 22 6) (field v 16 6))
  | 0xAC => .ok (.lvb q sg r22 ra disp9)
  | 0xAD => .ok (.lvc q sg r22 ra disp9)
  | 0xAE => .ok (.lvh q sg r22 ra disp9)
  | 0xAF => .ok (.lvw q sg r22 ra disp9)
  | 0xB0 => .ok (.lbx q sg sc rc ra rb)
  | 0xB1 => .ok (.lbux q sg sc rc ra rb)
  | 0xB2 => .ok (.lcx q sg sc rc ra rb)
  | 0xB3 => .ok (.lcux q sg sc rc ra rb)
  | 0xB4 => .ok (.lhx q sg sc rc ra rb)
  | 0xB5 => .ok (.lhux q sg sc rc ra rb)
  | 0xB6 => .ok (.lwx q sg sc rc ra rb)
  | 0xB7 => decodeJumpIndexed q (field v 32 2).toNat sg (field v 28 4) ra rb
  | 0xC0 => .ok (.sbx q sg sc rc ra rb)
  | 0xC1 => .ok (.scx q sg sc rc ra rb)
  | 0xC2 => .ok (.shx q sg sc rc ra rb)
  | 0xC3 => .ok (.swx q sg sc rc ra rb)
  | 0xC6 => .ok (.stix q sc (field v 36 4 ++ field v 28 6) ra rb)
  | 0xC7 => .ok (.inc q sg (field v 25 3) (field v 22 3) ra disp9 (field v 40 8))
  | 0xC8 => .ok (.push q)
  | 0xC9 => .ok (.pea q)
  | 0xCA => .ok (.pop q)
  | 0xCB => .ok (.link q)
  | 0xCC => .ok (.unlink q)
  | 0xD6 => .ok (.lwShort q (field v 29 3) r22 ra)
  | 0xF0 => decodeTlb q (field v 16 4).toNat (field v 20 4) (field v 24 6)
  | 0xF1 => .ok (.nop2 q)
  | 0xF2 => .ok (.rts4 q (field v 20 4) (field v 16 4) (field v 24 8))
  | 0xF3 => .ok (.rte q)
  | 0xF4 => .ok (.rti q)
  | 0xF5 => decodeBcd q func6 rt ra rb
  | 0xF6 => .ok (.stp q (field v 16 16))
  | 0xF7 => .ok (.sync q)
  | 0xF8 => .ok (.memsb q)
  | 0xF9 => .ok (.memdb q)
  | 0xFA => .ok (.cli q)
  | 0xFB => .ok (.sei q)
  | 0xFC => .ok (.rtd q)
  | 0xFF => .ok (.immFF q)
  | _ => .error .undefinedOpcode

/-- An instruction after an ordinary predicate byte: the compare and branch rows hold an operand in the opcode's low
nibble (R147, R148). -/
def decodePredicated (q : Pred) (v : Nat) : Decoded :=
  let op := (field v 8 8).toNat
  let pt : PredReg := field v 8 4
  let ra : Reg := field v 16 6
  if op < 0x10 then decodeTst q (field v 22 2).toNat pt ra
  else if op < 0x20 then decodeCmp q (field v 28 4).toNat pt ra (field v 22 6)
  else if op < 0x30 then .ok (.cmpi q pt ra (field v 22 10))
  else if op < 0x40 then .ok (.br q (pt ++ field v 16 8))
  else decodeOpcode q op v

/-- The prefix of `m` constant bytes (R139). -/
def decodeImmediate (m v : Nat) : Decoded :=
  match m with
  | 1 => .ok (.imm16 (field v 8 8))
  | 2 => .ok (.imm24 (field v 8 16))
  | 3 => .ok (.imm32 (field v 8 24))
  | 4 => .ok (.imm40 (field v 8 32))
  | 5 => .ok (.imm48 (field v 8 40))
  | 6 => .ok (.imm56 (field v 8 48))
  | _ => .ok (.imm64 (field v 8 56))

/-- A reserved predicate byte is refused, but Unimplemented comes before the refusal: an unassigned opcode or function
code is one whatever the predicate (R136, R137, 60_exceptions.md R605; log 28). -/
def decodeReserved (v : Nat) : Decoded :=
  match decodePredicated .never v with
  | .error .undefinedOpcode => .error .undefinedOpcode
  | .error .undefinedFunction => .error .undefinedFunction
  | _ => .error .reservedPredicate

/-- Decoding of one instruction or one prefix from its value (R134, R166). -/
def decodeValue (v : Nat) : Decoded :=
  match firstByte (field v 0 8) with
  | .brk => .ok .brk
  | .nop => .ok .nop1
  | .rts => .ok .rts1
  | .imm m => decodeImmediate m v
  | .pred q => decodePredicated q v
  | .reserved => decodeReserved v

/-- Decoding of one instruction or one prefix from its bytes, lowest address first; bytes past its end are not
looked at, and a byte that is not there reads as 0. -/
def decode (bs : List Byte) : Decoded := decodeValue (valueOfBytes bs)

/-! ### Lengths -/

/-- The length of an instruction from its opcode byte (R131). An opcode with no length, undefined or map-only, counts
its two known bytes. -/
def lengthOfOpcode (op : Nat) : Nat :=
  if op < 0x10 then 3
  else if op < 0x30 then 4
  else if op < 0x40 then 3
  else if [0xA0, 0xA3, 0xA4].contains op then 3
  else if [0x41, 0x47, 0x6F, 0x9D, 0x9F, 0xA5, 0xA6, 0xA7, 0xA8, 0xA9, 0xAB, 0xD6, 0xF0, 0xF2, 0xF6].contains op then 4
  else if [0x97, 0xA2, 0xAA, 0xC7].contains op then 6
  else if [0x40, 0x42, 0x46, 0x48, 0x49, 0x4A, 0x4B, 0x4C, 0x4D, 0x4E, 0x4F, 0x50, 0x51, 0x53, 0x54, 0x55, 0x58,
      0x6B, 0x6C, 0x6D, 0x6E, 0x72, 0x80, 0x81, 0x82, 0x83, 0x84, 0x85, 0x86, 0x8B, 0x8C, 0x8D, 0x8E, 0x8F, 0x90,
      0x91, 0x92, 0x93, 0x96, 0x98, 0x99, 0x9A, 0x9B, 0x9E, 0xA1, 0xAC, 0xAD, 0xAE, 0xAF, 0xB0, 0xB1, 0xB2, 0xB3,
      0xB4, 0xB5, 0xB6, 0xB7, 0xC0, 0xC1, 0xC2, 0xC3, 0xC6, 0xF5].contains op then 5
  else 2

/-- Whether an immediate prefix may stand before the instruction: the rows of R142 marked yes; every other one
refuses a prefix (R141). -/
def takesImmediate (i : Instr) : Bool :=
  match i with
  | .addi .. | .subi .. | .muli .. | .divi .. | .addui .. | .subui .. | .mului .. | .divui .. | .andi ..
  | .ori .. | .eori .. | .addui2 .. | .addui4 .. | .addui8 .. | .addui16 .. | .biti .. | .ldi .. | .ldis ..
  | .adduiShort .. | .cmpi .. | .lb .. | .lbu .. | .lc .. | .lcu .. | .lh .. | .lhu .. | .lw .. | .lvb ..
  | .lvc .. | .lvh .. | .lvw .. | .sb .. | .sc .. | .sh .. | .sw .. | .lvwar .. | .swcr .. | .lws .. | .sws ..
  | .lcl .. | .sti .. | .jci .. | .jhi .. | .jwi .. | .inc .. | .cas .. | .jsr5 .. | .jsr6 .. => true
  | .brk | .nop1 | .rts1 | .imm16 .. | .imm24 .. | .imm32 .. | .imm40 .. | .imm48 .. | .imm56 .. | .imm64 ..
  | .tst .. | .cmp .. | .br .. | .add .. | .sub .. | .mul .. | .div .. | .addu .. | .subu .. | .mulu ..
  | .divu .. | .addu2 .. | .addu4 .. | .addu8 .. | .addu16 .. | .min .. | .max .. | .cpuid .. | .redor ..
  | .redand .. | .par .. | .pand .. | .por .. | .peor .. | .pnand .. | .pnor .. | .penor .. | .pandc ..
  | .porc .. | .and .. | .or .. | .eor .. | .nand .. | .nor .. | .enor .. | .andc .. | .orc .. | .mlo ..
  | .shl .. | .shr .. | .shlu .. | .shru .. | .rol .. | .ror .. | .shli .. | .shri .. | .shlui .. | .shrui ..
  | .roli .. | .rori .. | .mux .. | .fmac .. | .fmov .. | .ftoi .. | .itof .. | .fneg .. | .fabs .. | .fsign ..
  | .fman .. | .fnabs .. | .fstat .. | .frm .. | .fcmp .. | .fadd .. | .fsub .. | .fmul .. | .fdiv ..
  | .fcmps .. | .fadds .. | .fsubs .. | .fmuls .. | .fdivs .. | .fmovs .. | .ftois .. | .itofs .. | .fnegs ..
  | .fabss .. | .fsigns .. | .fmans .. | .fnabss .. | .ftx .. | .fcx .. | .fex .. | .fdx .. | .ftst ..
  | .fstst .. | .fscmp .. | .lfs .. | .lfd .. | .sfs .. | .sfd .. | .stset .. | .stmov .. | .stcmp ..
  | .stfnd .. | .cacheInvI .. | .cacheInvILine .. | .cacheInvD .. | .cacheInvDLine .. | .jsr3 .. | .rts3 ..
  | .loop .. | .sys .. | .int .. | .mov .. | .neg .. | .not .. | .abs .. | .sgn .. | .cntlz .. | .cntlo ..
  | .cntpop .. | .sxb .. | .sxc .. | .sxh .. | .com .. | .zxb .. | .zxc .. | .zxh .. | .mfspr .. | .mtspr ..
  | .bfins .. | .bfset .. | .bfclr .. | .bfchg .. | .bfextu .. | .bfext .. | .bfinsi .. | .movs .. | .lbx ..
  | .lbux .. | .lcx .. | .lcux .. | .lhx .. | .lhux .. | .lwx .. | .jcix .. | .jhix .. | .jwix .. | .sbx ..
  | .scx .. | .shx .. | .swx .. | .stix .. | .push .. | .pea .. | .pop .. | .link .. | .unlink .. | .lwShort ..
  | .tlbnop .. | .tlbpb .. | .tlbrd .. | .tlbwr .. | .tlbwi .. | .tlben .. | .tlbdis .. | .tlbrdreg ..
  | .tlbwrreg .. | .tlbinv .. | .nop2 .. | .rts4 .. | .rte .. | .rti .. | .bcdadd .. | .bcdsub .. | .bcdmul ..
  | .stp .. | .sync .. | .memsb .. | .memdb .. | .cli .. | .sei .. | .rtd .. | .immFF .. => false

/-! ### Encoding -/

/-- The two bytes that open an instruction (R130). -/
def encHead (q : Pred) (op : Nat) : Nat := predByte q + 2 ^ 8 * op

/-- Format RR (R143). -/
def encRR (q : Pred) (op func : Nat) (rt ra rb : BitVec 6) : Nat :=
  encHead q op + 2 ^ 16 * ra.toNat + 2 ^ 22 * rb.toNat + 2 ^ 28 * rt.toNat + 2 ^ 34 * func

/-- Format RI (R144). -/
def encRI (q : Pred) (op : Nat) (rt ra : Reg) (imm : BitVec 12) : Nat :=
  encHead q op + 2 ^ 16 * ra.toNat + 2 ^ 22 * rt.toNat + 2 ^ 28 * imm.toNat

/-- Format RI10 (R145). -/
def encRI10 (q : Pred) (op : Nat) (rt : Reg) (imm : BitVec 10) : Nat :=
  encHead q op + 2 ^ 16 * rt.toNat + 2 ^ 22 * imm.toNat

/-- Format R (R146). -/
def encR (q : Pred) (op func : Nat) (rt ra : BitVec 6) : Nat :=
  encHead q op + 2 ^ 16 * ra.toNat + 2 ^ 22 * rt.toNat + 2 ^ 28 * func

/-- Format MEM (R150). -/
def encMem (q : Pred) (op : Nat) (sg : SegReg) (r ra : BitVec 6) (disp : BitVec 9) : Nat :=
  encHead q op + 2 ^ 16 * ra.toNat + 2 ^ 22 * r.toNat + 2 ^ 28 * disp.toNat + 2 ^ 37 * sg.toNat

/-- Format MEMX (R151). -/
def encMemX (q : Pred) (op : Nat) (sg : SegReg) (sc : BitVec 2) (rc ra rb : Reg) : Nat :=
  encHead q op + 2 ^ 16 * ra.toNat + 2 ^ 22 * rb.toNat + 2 ^ 28 * rc.toNat + 2 ^ 34 * sc.toNat + 2 ^ 37 * sg.toNat

/-- Format JI (R152). -/
def encJI (q : Pred) (size : Nat) (sg : SegReg) (ct : CodeReg) (ra : Reg) (disp : BitVec 9) : Nat :=
  encHead q 0x8D + 2 ^ 16 * ra.toNat + 2 ^ 22 * ct.toNat + 2 ^ 26 * size + 2 ^ 28 * disp.toNat + 2 ^ 37 * sg.toNat

/-- Format JIX (R152). -/
def encJIX (q : Pred) (size : Nat) (sg : SegReg) (ct : CodeReg) (ra rb : Reg) : Nat :=
  encHead q 0xB7 + 2 ^ 16 * ra.toNat + 2 ^ 22 * rb.toNat + 2 ^ 28 * ct.toNat + 2 ^ 32 * size + 2 ^ 37 * sg.toNat

/-- Format RRR4 (R153). -/
def encRRR4 (q : Pred) (op : Nat) (rt ra rb rc : Reg) : Nat :=
  encHead q op + 2 ^ 16 * ra.toNat + 2 ^ 22 * rb.toNat + 2 ^ 28 * rc.toNat + 2 ^ 34 * rt.toNat

/-- Format BF (R153). -/
def encBF (q : Pred) (func : Nat) (rt ra mb me : BitVec 6) : Nat :=
  encHead q 0xAA + 2 ^ 16 * ra.toNat + 2 ^ 22 * rt.toNat + 2 ^ 28 * mb.toNat + 2 ^ 34 * me.toNat + 2 ^ 40 * func

/-- Format STR (R154). -/
def encStr (q : Pred) (op : Nat) (sg : SegReg) (sz : Size) (dir : Direction) (ra rb rc : Reg) : Nat :=
  encHead q op + 2 ^ 16 * ra.toNat + 2 ^ 22 * rb.toNat + 2 ^ 28 * rc.toNat + 2 ^ 34 * codeOfSize sz
    + 2 ^ 36 * codeOfDirection dir + 2 ^ 37 * sg.toNat

/-- Formats with two nibbles and up to 24 bits above them (R149). -/
def encNibbles (q : Pred) (op lo hi rest : Nat) : Nat :=
  encHead q op + 2 ^ 16 * lo + 2 ^ 20 * hi + 2 ^ 24 * rest

/-- Format TLB (R155). -/
def encTlb (q : Pred) (cmd tn r : Nat) : Nat :=
  encHead q 0xF0 + 2 ^ 16 * cmd + 2 ^ 20 * tn + 2 ^ 24 * r

/-- Format CACHE (R155). -/
def encCache (q : Pred) (func : Nat) (ra : Reg) : Nat :=
  encHead q 0x9F + 2 ^ 16 * ra.toNat + 2 ^ 26 * func

/-- The value of an instruction (R166): fields the format draws as unused are 0 (R138). For the map-only names the
value holds what the map gives, the opcode and the function code (log 27). -/
def encodeValue (i : Instr) : Nat :=
  match i with
  | .brk => 0x00
  | .nop1 => 0x10
  | .rts1 => 0x11
  | .imm16 const => 0x20 + 2 ^ 8 * const.toNat
  | .imm24 const => 0x30 + 2 ^ 8 * const.toNat
  | .imm32 const => 0x40 + 2 ^ 8 * const.toNat
  | .imm40 const => 0x50 + 2 ^ 8 * const.toNat
  | .imm48 const => 0x60 + 2 ^ 8 * const.toNat
  | .imm56 const => 0x70 + 2 ^ 8 * const.toNat
  | .imm64 const => 0x80 + 2 ^ 8 * const.toNat
  | .tst q pt ra => encHead q pt.toNat + 2 ^ 16 * ra.toNat
  | .cmp q pt ra rb => encHead q (0x10 + pt.toNat) + 2 ^ 16 * ra.toNat + 2 ^ 22 * rb.toNat
  | .cmpi q pt ra imm => encHead q (0x20 + pt.toNat) + 2 ^ 16 * ra.toNat + 2 ^ 22 * imm.toNat
  | .br q disp => encHead q (0x30 + disp.toNat / 2 ^ 8) + 2 ^ 16 * (disp.toNat % 2 ^ 8)
  | .add q rt ra rb => encRR q 0x40 0 rt ra rb
  | .sub q rt ra rb => encRR q 0x40 1 rt ra rb
  | .mul q rt ra rb => encRR q 0x40 2 rt ra rb
  | .div q rt ra rb => encRR q 0x40 3 rt ra rb
  | .addu q rt ra rb => encRR q 0x40 4 rt ra rb
  | .subu q rt ra rb => encRR q 0x40 5 rt ra rb
  | .mulu q rt ra rb => encRR q 0x40 6 rt ra rb
  | .divu q rt ra rb => encRR q 0x40 7 rt ra rb
  | .addu2 q rt ra rb => encRR q 0x40 8 rt ra rb
  | .addu4 q rt ra rb => encRR q 0x40 9 rt ra rb
  | .addu8 q rt ra rb => encRR q 0x40 10 rt ra rb
  | .addu16 q rt ra rb => encRR q 0x40 11 rt ra rb
  | .min q rt ra rb => encRR q 0x40 16 rt ra rb
  | .max q rt ra rb => encRR q 0x40 17 rt ra rb
  | .cpuid q rt ra => encR q 0x41 0 rt ra
  | .redor q rt ra => encR q 0x41 1 rt ra
  | .redand q rt ra => encR q 0x41 2 rt ra
  | .par q rt ra => encR q 0x41 3 rt ra
  | .pand q bt ba bb => encRR q 0x42 0 bt ba bb
  | .por q bt ba bb => encRR q 0x42 1 bt ba bb
  | .peor q bt ba bb => encRR q 0x42 2 bt ba bb
  | .pnand q bt ba bb => encRR q 0x42 3 bt ba bb
  | .pnor q bt ba bb => encRR q 0x42 4 bt ba bb
  | .penor q bt ba bb => encRR q 0x42 5 bt ba bb
  | .pandc q bt ba bb => encRR q 0x42 6 bt ba bb
  | .porc q bt ba bb => encRR q 0x42 7 bt ba bb
  | .biti q pt ra imm => encHead q 0x46 + 2 ^ 16 * ra.toNat + 2 ^ 22 * pt.toNat + 2 ^ 28 * imm.toNat
  | .adduiShort q rt imm => encRI10 q 0x47 rt imm
  | .addi q rt ra imm => encRI q 0x48 rt ra imm
  | .subi q rt ra imm => encRI q 0x49 rt ra imm
  | .muli q rt ra imm => encRI q 0x4A rt ra imm
  | .divi q rt ra imm => encRI q 0x4B rt ra imm
  | .addui q rt ra imm => encRI q 0x4C rt ra imm
  | .subui q rt ra imm => encRI q 0x4D rt ra imm
  | .mului q rt ra imm => encRI q 0x4E rt ra imm
  | .divui q rt ra imm => encRI q 0x4F rt ra imm
  | .and q rt ra rb => encRR q 0x50 0 rt ra rb
  | .or q rt ra rb => encRR q 0x50 1 rt ra rb
  | .eor q rt ra rb => encRR q 0x50 2 rt ra rb
  | .nand q rt ra rb => encRR q 0x50 3 rt ra rb
  | .nor q rt ra rb => encRR q 0x50 4 rt ra rb
  | .enor q rt ra rb => encRR q 0x50 5 rt ra rb
  | .andc q rt ra rb => encRR q 0x50 6 rt ra rb
  | .orc q rt ra rb => encRR q 0x50 7 rt ra rb
  | .mlo q rt ra rb rc => encRRR4 q 0x51 rt ra rb rc
  | .andi q rt ra imm => encRI q 0x53 rt ra imm
  | .ori q rt ra imm => encRI q 0x54 rt ra imm
  | .eori q rt ra imm => encRI q 0x55 rt ra imm
  | .shl q rt ra rb => encRR q 0x58 0 rt ra rb
  | .shr q rt ra rb => encRR q 0x58 1 rt ra rb
  | .shlu q rt ra rb => encRR q 0x58 2 rt ra rb
  | .shru q rt ra rb => encRR q 0x58 3 rt ra rb
  | .rol q rt ra rb => encRR q 0x58 4 rt ra rb
  | .ror q rt ra rb => encRR q 0x58 5 rt ra rb
  | .shli q rt ra imm => encRR q 0x58 16 rt ra imm
  | .shri q rt ra imm => encRR q 0x58 17 rt ra imm
  | .shlui q rt ra imm => encRR q 0x58 18 rt ra imm
  | .shrui q rt ra imm => encRR q 0x58 19 rt ra imm
  | .roli q rt ra imm => encRR q 0x58 20 rt ra imm
  | .rori q rt ra imm => encRR q 0x58 21 rt ra imm
  | .addui2 q rt ra imm => encRI q 0x6B rt ra imm
  | .addui4 q rt ra imm => encRI q 0x6C rt ra imm
  | .addui8 q rt ra imm => encRI q 0x6D rt ra imm
  | .addui16 q rt ra imm => encRI q 0x6E rt ra imm
  | .ldi q rt imm => encRI10 q 0x6F rt imm
  | .mux q rt ra rb rc => encRRR4 q 0x72 rt ra rb rc
  | .fmac q => encHead q 0x76
  | .fmov q => encHead q 0x77 + 2 ^ 28 * 0
  | .ftoi q => encHead q 0x77 + 2 ^ 28 * 2
  | .itof q => encHead q 0x77 + 2 ^ 28 * 3
  | .fneg q => encHead q 0x77 + 2 ^ 28 * 4
  | .fabs q => encHead q 0x77 + 2 ^ 28 * 5
  | .fsign q => encHead q 0x77 + 2 ^ 28 * 6
  | .fman q => encHead q 0x77 + 2 ^ 28 * 7
  | .fnabs q => encHead q 0x77 + 2 ^ 28 * 8
  | .fstat q => encHead q 0x77 + 2 ^ 28 * 12
  | .frm q => encHead q 0x77 + 2 ^ 28 * 13
  | .fcmp q => encHead q 0x78 + 2 ^ 34 * 7
  | .fadd q => encHead q 0x78 + 2 ^ 34 * 8
  | .fsub q => encHead q 0x78 + 2 ^ 34 * 9
  | .fmul q => encHead q 0x78 + 2 ^ 34 * 10
  | .fdiv q => encHead q 0x78 + 2 ^ 34 * 11
  | .fcmps q => encHead q 0x78 + 2 ^ 34 * 23
  | .fadds q => encHead q 0x78 + 2 ^ 34 * 24
  | .fsubs q => encHead q 0x78 + 2 ^ 34 * 25
  | .fmuls q => encHead q 0x78 + 2 ^ 34 * 26
  | .fdivs q => encHead q 0x78 + 2 ^ 34 * 27
  | .fmovs q => encHead q 0x79 + 2 ^ 28 * 0
  | .ftois q => encHead q 0x79 + 2 ^ 28 * 2
  | .itofs q => encHead q 0x79 + 2 ^ 28 * 3
  | .fnegs q => encHead q 0x79 + 2 ^ 28 * 4
  | .fabss q => encHead q 0x79 + 2 ^ 28 * 5
  | .fsigns q => encHead q 0x79 + 2 ^ 28 * 6
  | .fmans q => encHead q 0x79 + 2 ^ 28 * 7
  | .fnabss q => encHead q 0x79 + 2 ^ 28 * 8
  | .ftx q => encHead q 0x79 + 2 ^ 28 * 12
  | .fcx q => encHead q 0x79 + 2 ^ 28 * 13
  | .fex q => encHead q 0x79 + 2 ^ 28 * 14
  | .fdx q => encHead q 0x79 + 2 ^ 28 * 15
  | .ftst q pt => encHead q pt.toNat + 2 ^ 22 * 1
  | .fstst q pt => encHead q pt.toNat + 2 ^ 22 * 2
  | .fscmp q pt => encHead q (0x10 + pt.toNat) + 2 ^ 28 * 2
  | .lb q sg rt ra disp => encMem q 0x80 sg rt ra disp
  | .lbu q sg rt ra disp => encMem q 0x81 sg rt ra disp
  | .lc q sg rt ra disp => encMem q 0x82 sg rt ra disp
  | .lcu q sg rt ra disp => encMem q 0x83 sg rt ra disp
  | .lh q sg rt ra disp => encMem q 0x84 sg rt ra disp
  | .lhu q sg rt ra disp => encMem q 0x85 sg rt ra disp
  | .lw q sg rt ra disp => encMem q 0x86 sg rt ra disp
  | .lfs q => encHead q 0x87
  | .lfd q => encHead q 0x88
  | .lvwar q sg rt ra disp => encMem q 0x8B sg rt ra disp
  | .swcr q sg rs ra disp => encMem q 0x8C sg rs ra disp
  | .jci q sg ct ra disp => encJI q 1 sg ct ra disp
  | .jhi q sg ct ra disp => encJI q 2 sg ct ra disp
  | .jwi q sg ct ra disp => encJI q 3 sg ct ra disp
  | .lws q sg spr ra disp => encMem q 0x8E sg spr ra disp
  | .lcl q sg tgt ra disp => encMem q 0x8F sg tgt ra disp
  | .sb q sg rs ra disp => encMem q 0x90 sg rs ra disp
  | .sc q sg rs ra disp => encMem q 0x91 sg rs ra disp
  | .sh q sg rs ra disp => encMem q 0x92 sg rs ra disp
  | .sw q sg rs ra disp => encMem q 0x93 sg rs ra disp
  | .sfs q => encHead q 0x94
  | .sfd q => encHead q 0x95
  | .sti q sg imm ra disp => encMem q 0x96 sg imm ra disp
  | .cas q rt ra rb rc disp => encRRR4 q 0x97 rt ra rb rc + 2 ^ 40 * disp.toNat
  | .stset q sg sz dir ra rb => encStr q 0x98 sg sz dir ra rb 0
  | .stmov q sg sz dir ra rb rc => encStr q 0x99 sg sz dir ra rb rc
  | .stcmp q sg sz dir ra rb rc => encStr q 0x9A sg sz dir ra rb rc
  | .stfnd q sg sz dir ra rb rc => encStr q 0x9B sg sz dir ra rb rc
  | .ldis q spr imm => encRI10 q 0x9D spr imm
  | .sws q sg spr ra disp => encMem q 0x9E sg spr ra disp
  | .cacheInvI q => encCache q 0 0
  | .cacheInvILine q ra => encCache q 1 ra
  | .cacheInvD q => encCache q 32 0
  | .cacheInvDLine q ra => encCache q 33 ra
  | .jsr3 q crt cr => encNibbles q 0xA0 crt.toNat cr.toNat 0
  | .jsr5 q crt cr off => encNibbles q 0xA1 crt.toNat cr.toNat off.toNat
  | .jsr6 q crt cr off => encNibbles q 0xA2 crt.toNat cr.toNat off.toNat
  | .rts3 q cr im4 => encNibbles q 0xA3 im4.toNat cr.toNat 0
  | .loop q disp => encHead q 0xA4 + 2 ^ 16 * disp.toNat
  | .sys q cr crt off => encNibbles q 0xA5 crt.toNat cr.toNat off.toNat
  | .int q cr crt off => encNibbles q 0xA6 crt.toNat cr.toNat off.toNat
  | .mov q rt ra => encR q 0xA7 0 rt ra
  | .neg q rt ra => encR q 0xA7 1 rt ra
  | .not q rt ra => encR q 0xA7 2 rt ra
  | .abs q rt ra => encR q 0xA7 3 rt ra
  | .sgn q rt ra => encR q 0xA7 4 rt ra
  | .cntlz q rt ra => encR q 0xA7 5 rt ra
  | .cntlo q rt ra => encR q 0xA7 6 rt ra
  | .cntpop q rt ra => encR q 0xA7 7 rt ra
  | .sxb q rt ra => encR q 0xA7 8 rt ra
  | .sxc q rt ra => encR q 0xA7 9 rt ra
  | .sxh q rt ra => encR q 0xA7 10 rt ra
  | .com q rt ra => encR q 0xA7 11 rt ra
  | .zxb q rt ra => encR q 0xA7 12 rt ra
  | .zxc q rt ra => encR q 0xA7 13 rt ra
  | .zxh q rt ra => encR q 0xA7 14 rt ra
  | .mfspr q rt spr => encR q 0xA8 0 rt spr
  | .mtspr q spr ra => encR q 0xA9 0 spr ra
  | .bfins q rt ra mb me => encBF q 0 rt ra mb me
  | .bfset q rt ra mb me => encBF q 1 rt ra mb me
  | .bfclr q rt ra mb me => encBF q 2 rt ra mb me
  | .bfchg q rt ra mb me => encBF q 3 rt ra mb me
  | .bfextu q rt ra mb me => encBF q 4 rt ra mb me
  | .bfext q rt ra mb me => encBF q 5 rt ra mb me
  | .bfinsi q rt imm mb me => encBF q 6 rt imm mb me
  | .movs q sprt spr => encR q 0xAB 0 sprt spr
  | .lvb q sg rt ra disp => encMem q 0xAC sg rt ra disp
  | .lvc q sg rt ra disp => encMem q 0xAD sg rt ra disp
  | .lvh q sg rt ra disp => encMem q 0xAE sg rt ra disp
  | .lvw q sg rt ra disp => encMem q 0xAF sg rt ra disp
  | .lbx q sg scale rt ra rb => encMemX q 0xB0 sg scale rt ra rb
  | .lbux q sg scale rt ra rb => encMemX q 0xB1 sg scale rt ra rb
  | .lcx q sg scale rt ra rb => encMemX q 0xB2 sg scale rt ra rb
  | .lcux q sg scale rt ra rb => encMemX q 0xB3 sg scale rt ra rb
  | .lhx q sg scale rt ra rb => encMemX q 0xB4 sg scale rt ra rb
  | .lhux q sg scale rt ra rb => encMemX q 0xB5 sg scale rt ra rb
  | .lwx q sg scale rt ra rb => encMemX q 0xB6 sg scale rt ra rb
  | .jcix q sg ct ra rb => encJIX q 1 sg ct ra rb
  | .jhix q sg ct ra rb => encJIX q 2 sg ct ra rb
  | .jwix q sg ct ra rb => encJIX q 3 sg ct ra rb
  | .sbx q sg scale rs ra rb => encMemX q 0xC0 sg scale rs ra rb
  | .scx q sg scale rs ra rb => encMemX q 0xC1 sg scale rs ra rb
  | .shx q sg scale rs ra rb => encMemX q 0xC2 sg scale rs ra rb
  | .swx q sg scale rs ra rb => encMemX q 0xC3 sg scale rs ra rb
  | .stix q scale imm ra rb => encHead q 0xC6 + 2 ^ 16 * ra.toNat + 2 ^ 22 * rb.toNat + 2 ^ 28 * (imm.toNat % 2 ^ 6) + 2 ^ 34 * scale.toNat
    + 2 ^ 36 * (imm.toNat / 2 ^ 6)
  | .inc q sg o3 sz ra disp amt => encHead q 0xC7 + 2 ^ 16 * ra.toNat + 2 ^ 22 * sz.toNat + 2 ^ 25 * o3.toNat + 2 ^ 28 * disp.toNat
    + 2 ^ 37 * sg.toNat + 2 ^ 40 * amt.toNat
  | .push q => encHead q 0xC8
  | .pea q => encHead q 0xC9
  | .pop q => encHead q 0xCA
  | .link q => encHead q 0xCB
  | .unlink q => encHead q 0xCC
  | .lwShort q sg rt ra => encHead q 0xD6 + 2 ^ 16 * ra.toNat + 2 ^ 22 * rt.toNat + 2 ^ 29 * sg.toNat
  | .tlbnop q => encTlb q 0 0 0
  | .tlbpb q => encTlb q 1 0 0
  | .tlbrd q => encTlb q 2 0 0
  | .tlbwr q => encTlb q 3 0 0
  | .tlbwi q => encTlb q 4 0 0
  | .tlben q => encTlb q 5 0 0
  | .tlbdis q => encTlb q 6 0 0
  | .tlbrdreg q tn rt => encTlb q 7 tn.toNat rt.toNat
  | .tlbwrreg q tn rb => encTlb q 8 tn.toNat rb.toNat
  | .tlbinv q => encTlb q 9 0 0
  | .nop2 q => encHead q 0xF1
  | .rts4 q cr im4 adj => encNibbles q 0xF2 im4.toNat cr.toNat adj.toNat
  | .rte q => encHead q 0xF3
  | .rti q => encHead q 0xF4
  | .bcdadd q rt ra rb => encRR q 0xF5 0 rt ra rb
  | .bcdsub q rt ra rb => encRR q 0xF5 1 rt ra rb
  | .bcdmul q rt ra rb => encRR q 0xF5 2 rt ra rb
  | .stp q imm => encHead q 0xF6 + 2 ^ 16 * imm.toNat
  | .sync q => encHead q 0xF7
  | .memsb q => encHead q 0xF8
  | .memdb q => encHead q 0xF9
  | .cli q => encHead q 0xFA
  | .sei q => encHead q 0xFB
  | .rtd q => encHead q 0xFC
  | .immFF q => encHead q 0xFF

/-- The length of an encoded instruction or prefix in bytes (R131, R133). A map-only name with a function code counts
the bytes that hold it (log 27). -/
def encodeLength (i : Instr) : Nat :=
  match i with
  | .brk | .nop1 | .rts1 => 1
  | .imm16 .. | .fmac .. | .lfs .. | .lfd .. | .sfs .. | .sfd .. | .push .. | .pea .. | .pop .. | .link ..
  | .unlink .. | .nop2 .. | .rte .. | .rti .. | .sync .. | .memsb .. | .memdb .. | .cli .. | .sei .. | .rtd ..
  | .immFF .. => 2
  | .imm24 .. | .tst .. | .br .. | .ftst .. | .fstst .. | .jsr3 .. | .rts3 .. | .loop .. => 3
  | .imm32 .. | .cmp .. | .cmpi .. | .cpuid .. | .redor .. | .redand .. | .par .. | .adduiShort .. | .ldi ..
  | .fmov .. | .ftoi .. | .itof .. | .fneg .. | .fabs .. | .fsign .. | .fman .. | .fnabs .. | .fstat ..
  | .frm .. | .fmovs .. | .ftois .. | .itofs .. | .fnegs .. | .fabss .. | .fsigns .. | .fmans .. | .fnabss ..
  | .ftx .. | .fcx .. | .fex .. | .fdx .. | .fscmp .. | .ldis .. | .cacheInvI .. | .cacheInvILine ..
  | .cacheInvD .. | .cacheInvDLine .. | .sys .. | .int .. | .mov .. | .neg .. | .not .. | .abs .. | .sgn ..
  | .cntlz .. | .cntlo .. | .cntpop .. | .sxb .. | .sxc .. | .sxh .. | .com .. | .zxb .. | .zxc .. | .zxh ..
  | .mfspr .. | .mtspr .. | .movs .. | .lwShort .. | .tlbnop .. | .tlbpb .. | .tlbrd .. | .tlbwr .. | .tlbwi ..
  | .tlben .. | .tlbdis .. | .tlbrdreg .. | .tlbwrreg .. | .tlbinv .. | .rts4 .. | .stp .. => 4
  | .imm40 .. | .add .. | .sub .. | .mul .. | .div .. | .addu .. | .subu .. | .mulu .. | .divu .. | .addu2 ..
  | .addu4 .. | .addu8 .. | .addu16 .. | .min .. | .max .. | .pand .. | .por .. | .peor .. | .pnand ..
  | .pnor .. | .penor .. | .pandc .. | .porc .. | .biti .. | .addi .. | .subi .. | .muli .. | .divi ..
  | .addui .. | .subui .. | .mului .. | .divui .. | .and .. | .or .. | .eor .. | .nand .. | .nor .. | .enor ..
  | .andc .. | .orc .. | .mlo .. | .andi .. | .ori .. | .eori .. | .shl .. | .shr .. | .shlu .. | .shru ..
  | .rol .. | .ror .. | .shli .. | .shri .. | .shlui .. | .shrui .. | .roli .. | .rori .. | .addui2 ..
  | .addui4 .. | .addui8 .. | .addui16 .. | .mux .. | .fcmp .. | .fadd .. | .fsub .. | .fmul .. | .fdiv ..
  | .fcmps .. | .fadds .. | .fsubs .. | .fmuls .. | .fdivs .. | .lb .. | .lbu .. | .lc .. | .lcu .. | .lh ..
  | .lhu .. | .lw .. | .lvwar .. | .swcr .. | .jci .. | .jhi .. | .jwi .. | .lws .. | .lcl .. | .sb .. | .sc ..
  | .sh .. | .sw .. | .sti .. | .stset .. | .stmov .. | .stcmp .. | .stfnd .. | .sws .. | .jsr5 .. | .lvb ..
  | .lvc .. | .lvh .. | .lvw .. | .lbx .. | .lbux .. | .lcx .. | .lcux .. | .lhx .. | .lhux .. | .lwx ..
  | .jcix .. | .jhix .. | .jwix .. | .sbx .. | .scx .. | .shx .. | .swx .. | .stix .. | .bcdadd .. | .bcdsub ..
  | .bcdmul .. => 5
  | .imm48 .. | .cas .. | .jsr6 .. | .bfins .. | .bfset .. | .bfclr .. | .bfchg .. | .bfextu .. | .bfext ..
  | .bfinsi .. | .inc .. => 6
  | .imm56 .. => 7
  | .imm64 .. => 8

/-- `encode`: the bytes of an instruction, lowest address first. -/
def encode (i : Instr) : List Byte := bytesOfValue (encodeLength i) (encodeValue i)

/-! ### The host's entry -/

/-- The instruction the decoder reads from the value `w` of `nbits` bits, bits numbered as spec/opcode_table.json
numbers them; every bit above `nbits` is 0. Eight bytes hold any instruction or prefix (R130). -/
def decodeTableWord (nbits w : Nat) : Option Instr :=
  match decode (bytesOfValue 8 (w % 2 ^ nbits)) with
  | .ok i => some i
  | .error _ => none

end Sys2Proof
end

