-- ==== Sys2Proof/Machine/Fetch.lean ====
section
/-! DEFINITION. What a step does around an instruction: the inputs sampled, reset and interrupts, fetching a unit,
running it, and the end of the step (20_memory.md R97, 30_encoding.md R134 to R141, 60_exceptions.md R572 to R577,
R595, R605, R610, 70_reset_and_hazards.md R620). -/

namespace Sys2Proof.Machine

/-- One outcome after another. -/
def andThen (r : Result) (k : State → Result) : Result :=
  match r with
  | .next s => k s
  | .fault f => .fault f
  | .refused x => .refused x

/-! ### The inputs (60_exceptions.md R573, R575, R610; 20_memory.md R112; log 22) -/

/-- The clock pattern back at half rate and running (10_state.md R63). -/
def State.restartClock (s : State) : State := { s with clk := { rate := Config.halfRate, stopped := false } }

/-- A rising edge of the NMI line is remembered, beside those that still wait, and starts a stopped clock
(60_exceptions.md R573, R610). -/
def State.noteNmi (s : State) (old : Bool) : State :=
  if s.pins.nmi && !old then { s.restartClock with nmiEdges := s.nmiEdges + 1 } else s

/-- The reservation that the memory system reports lost is gone (20_memory.md R112). -/
def State.dropLost (s : State) : State := if s.pins.resvLost then { s with reservation := none } else s

/-- The pins of this step: the next sample, or the last one when none is left. -/
def State.nextPins (s : State) : State :=
  match s.inputs with
  | [] => s
  | p :: rest => { s with pins := p, inputs := rest }

/-- The state in which a step begins: the pins sampled, no prefix pending. -/
def beginStep (s : State) : State :=
  ({ s with immPrefix := none, progress := .retired }.nextPins.noteNmi s.pins.nmi).dropLost

/-! ### Reset (70_reset_and_hazards.md R620 to R624; log 23) -/

/-- A register file with unspecified contents: free values, one for each number from `slot` on. -/
def freeWords (clock slot n : Nat) : Vector Word n :=
  Vector.ofFn fun i : Fin n => Config.resetValue clock (slot + i.val)

/-- A TLB entry with unspecified contents. -/
def freeEntry (clock slot : Nat) : TlbEntry :=
  { virtPage := (Config.resetValue clock slot).setWidth 52
    physPage := (Config.resetValue clock (slot + 1)).setWidth 52
    asid := (Config.resetValue clock (slot + 2)).setWidth 8
    g := (Config.resetValue clock (slot + 2)).getLsbD 8
    v := (Config.resetValue clock (slot + 2)).getLsbD 9
    d := (Config.resetValue clock (slot + 2)).getLsbD 10
    c := (Config.resetValue clock (slot + 2)).extractLsb' 11 3 }

/-- The core after the reset input, memory and the environment kept: what 10_state.md R72 gives is as
`State.reset` has it, what it leaves unspecified is a free value. DESIGN CHOICE: the NMI edges remembered and not yet
taken stay, since the environment remembers each until it is taken (10_state.md R66, 60_exceptions.md R573; log 23). -/
def warmReset (s : State) : State :=
  let free := Config.resetValue s.clock
  { State.reset with
    regs := (freeWords s.clock 0 64).set 0 0
    code := ((freeWords s.clock 64 16).set 0 0).set 15 0
    c12Used := free 80
    preds := Vector.ofFn fun i : Fin 16 => (free (81 + i.val)).setWidth 4
    segs :=
      { base := freeWords s.clock 97 8
        baseUsed := freeWords s.clock 105 8
        limit := freeWords s.clock 113 8
        limitUsed := freeWords s.clock 121 8 }
    sr := (free 129).setWidth 32 ||| 0x8000#32
    lc := free 130
    asid := (free 131).setWidth 8
    exc := free 132
    bir := (free 133).setWidth 6
    tick := free 134
    dbg := { addr := freeWords s.clock 135 4, ctrl := free 139 &&& ~~~(0x8F#64), stat := free 140 }
    tlb :=
      { entries := Vector.ofFn fun i : Fin 64 => freeEntry s.clock (200 + 3 * i.val)
        enabled := false
        wired := (free 141).setWidth 3
        index := (free 142).setWidth 6
        pageSize := (free 143).setWidth 3
        virtPage := free 144
        physPage := free 145
        asidReg := free 146
        dma := free 147
        ima := free 148
        pta := free 149
        ptc := free 150 }
    mem := s.mem
    platform := s.platform
    pins := s.pins
    inputs := s.inputs
    nmiEdges := s.nmiEdges
    clock := s.clock }

/-! ### Fetching (20_memory.md R97) -/

/-- Where byte `k` of the unit lies, through the checks of 20_memory.md R97 except the debug match: the
segment limit, (the unreachable page, R87; log 30,) the TLB, the bus error. -/
def fetchAddress (s : State) (k : Nat) : Check Phys :=
  let a := seq s.pc k
  let va := s.fetchVa (8 + k) a
  if !nonSegmented a && limitFault (s.segmentLimit (8 + k) 7) a then .raise vecLimit s
  else if inLastPage va then .fault .unreachablePage
  else
    match s.translate va with
    | .undefinedSize => .refuse .tlbPageSize
    | .multiple => .refuse .tlbMultipleHit
    | .miss => .raise vecFetchMiss (s.recordFetchMiss va)
    | .hit p => if s.fetchBusError p.pa.toNat then .raise vecFetchBus s else .ok p

/-- The byte a fetch sees: the one in memory, or one that stood there since the last invalidate (20_memory.md R117;
log 19); through a page that is not cached the one in memory (R105). -/
def State.fetchedByte (s : State) (slot : Nat) (p : Phys) : Byte :=
  let now := s.readByte slot p.pa.toNat
  if s.uncached p then now
  else
    match (s.stale.filter fun e => e.addr == p.pa.toNat).map fun e => e.old with
    | [] => now
    | olds => (now :: olds).getD (Config.stalePick s.clock slot % (olds.length + 1)) now

/-- Byte `k` of the unit. -/
def fetchByte (s : State) (k : Nat) : Check Byte :=
  (fetchAddress s k).andThen fun p => .ok (s.fetchedByte (8 + k) p)

/-- The `n` bytes of the unit from byte `k` on. -/
def fetchBytes (s : State) (k : Nat) : Nat → Check (List Byte)
  | 0 => .ok []
  | n + 1 => (fetchByte s k).andThen fun b => (fetchBytes s (k + 1) n).andThen fun bs => .ok (b :: bs)

/-- The bytes of one instruction or one prefix that begins at byte `k` of the unit: its length is known from its
first two bytes (30_encoding.md R131). After a reserved predicate byte they are fetched too, since an unassigned opcode
or function code comes before its refusal (60_exceptions.md R605; log 28). -/
def fetchItem (s : State) (k : Nat) : Check (List Byte) :=
  (fetchByte s k).andThen fun b =>
    match firstByte b with
    | .brk | .nop | .rts => .ok [b]
    | .imm m => (fetchBytes s (k + 1) m).andThen fun bs => .ok (b :: bs)
    | .pred _ | .reserved =>
      (fetchByte s (k + 1)).andThen fun op =>
        (fetchBytes s (k + 2) (lengthOfOpcode op.toNat - 2)).andThen fun bs => .ok (b :: op :: bs)

/-- The bytes that open with a prefix (30_encoding.md R133). -/
def isPrefix (bs : List Byte) : Bool :=
  match bs with
  | [] => false
  | b :: _ =>
    match firstByte b with
    | .imm _ => true
    | _ => false

/-- The bytes of a unit: those of its prefix, if it has one, and those of its instruction (30_encoding.md R139). -/
structure UnitBytes where
  prefixBytes : Option (List Byte)
  body : List Byte
  deriving DecidableEq, Repr

/-- The bytes of the unit at pc. -/
def fetchUnitBytes (s : State) : Check UnitBytes :=
  (fetchItem s 0).andThen fun bs =>
    if isPrefix bs then
      (fetchItem s bs.length).andThen fun body => .ok { prefixBytes := some bs, body := body }
    else .ok { prefixBytes := none, body := bs }

/-- The debug instruction match of the unit's first byte comes after the limit and the TLB and before the bus
(20_memory.md R97, 60_exceptions.md R595, R605; log 29). -/
def debugFetchCheck {α : Type} (s : State) (c : Check α) : Check α :=
  let hits := debugHits (debugFetchMatch s.dbg (s.fetchVa 8 s.pc))
  if hits = 0 then c
  else
    match c with
    | .ok _ => .raise vecDebug (s.setDebugStatus hits)
    | .raise v t => if v = vecFetchBus then .raise vecDebug (s.setDebugStatus hits) else .raise v t
    | .fault f => .fault f
    | .refuse r => .refuse r

/-! ### Decoding a unit -/

/-- A unit that is no instruction: illegal ones trap through vector 250, reserved predicates are refused
(30_encoding.md R136, R137; log 28). -/
def rejectUnit (s : State) (e : DecodeError) : Result :=
  let illegal := if Config.trapIllegalOps then raiseException vecUnimplemented s else .refused .untrappedIllegal
  match e with
  | .undefinedOpcode => illegal
  | .undefinedFunction => illegal
  | .reservedPredicate => .refused .reservedPredicate
  | .undescribedFloat => .refused .floatingPoint

/-- The unit's instruction run by `ex`, after its prefix if it has one; a prefix before an instruction that takes none
is refused (30_encoding.md R139, R141). -/
def runDecoded (ex : Instr → State → Result) (s : State) (pre : Option (List Byte)) (i : Instr) : Result :=
  match pre with
  | none => ex i s
  | some bs =>
    if takesImmediate i then
      match decode bs with
      | .ok p => andThen (ex p s) (ex i)
      | .error e => rejectUnit s e
    else .refused .immediateNotTaken

/-! ### The end of a step -/

/-- The predicate byte of an instruction that has one (30_encoding.md R132, R133). -/
def predicateOf (i : Instr) : Option Pred :=
  match i with
  | .brk | .nop1 | .rts1 | .imm16 .. | .imm24 .. | .imm32 .. | .imm40 .. | .imm48 .. | .imm56 .. | .imm64 .. => none
  | .tst q .. | .cmp q .. | .cmpi q .. | .br q .. | .add q .. | .sub q .. | .mul q .. | .div q .. | .addu q ..
  | .subu q .. | .mulu q .. | .divu q .. | .addu2 q .. | .addu4 q .. | .addu8 q .. | .addu16 q .. | .min q ..
  | .max q .. | .cpuid q .. | .redor q .. | .redand q .. | .par q .. | .pand q .. | .por q .. | .peor q ..
  | .pnand q .. | .pnor q .. | .penor q .. | .pandc q .. | .porc q .. | .biti q .. | .adduiShort q .. | .addi q ..
  | .subi q .. | .muli q .. | .divi q .. | .addui q .. | .subui q .. | .mului q .. | .divui q .. | .and q ..
  | .or q .. | .eor q .. | .nand q .. | .nor q .. | .enor q .. | .andc q .. | .orc q .. | .mlo q .. | .andi q ..
  | .ori q .. | .eori q .. | .shl q .. | .shr q .. | .shlu q .. | .shru q .. | .rol q .. | .ror q .. | .shli q ..
  | .shri q .. | .shlui q .. | .shrui q .. | .roli q .. | .rori q .. | .addui2 q .. | .addui4 q .. | .addui8 q ..
  | .addui16 q .. | .ldi q .. | .mux q .. | .fmac q | .fmov q | .ftoi q | .itof q | .fneg q | .fabs q | .fsign q
  | .fman q | .fnabs q | .fstat q | .frm q | .fcmp q | .fadd q | .fsub q | .fmul q | .fdiv q | .fcmps q | .fadds q
  | .fsubs q | .fmuls q | .fdivs q | .fmovs q | .ftois q | .itofs q | .fnegs q | .fabss q | .fsigns q | .fmans q
  | .fnabss q | .ftx q | .fcx q | .fex q | .fdx q | .ftst q .. | .fstst q .. | .fscmp q .. | .lb q .. | .lbu q ..
  | .lc q .. | .lcu q .. | .lh q .. | .lhu q .. | .lw q .. | .lfs q | .lfd q | .lvwar q .. | .swcr q .. | .jci q ..
  | .jhi q .. | .jwi q .. | .lws q .. | .lcl q .. | .sb q .. | .sc q .. | .sh q .. | .sw q .. | .sfs q | .sfd q
  | .sti q .. | .cas q .. | .stset q .. | .stmov q .. | .stcmp q .. | .stfnd q .. | .ldis q .. | .sws q ..
  | .cacheInvI q | .cacheInvILine q .. | .cacheInvD q | .cacheInvDLine q .. | .jsr3 q .. | .jsr5 q .. | .jsr6 q ..
  | .rts3 q .. | .loop q .. | .sys q .. | .int q .. | .mov q .. | .neg q .. | .not q .. | .abs q .. | .sgn q ..
  | .cntlz q .. | .cntlo q .. | .cntpop q .. | .sxb q .. | .sxc q .. | .sxh q .. | .com q .. | .zxb q .. | .zxc q ..
  | .zxh q .. | .mfspr q .. | .mtspr q .. | .bfins q .. | .bfset q .. | .bfclr q .. | .bfchg q .. | .bfextu q ..
  | .bfext q .. | .bfinsi q .. | .movs q .. | .lvb q .. | .lvc q .. | .lvh q .. | .lvw q .. | .lbx q .. | .lbux q ..
  | .lcx q .. | .lcux q .. | .lhx q .. | .lhux q .. | .lwx q .. | .jcix q .. | .jhix q .. | .jwix q .. | .sbx q ..
  | .scx q .. | .shx q .. | .swx q .. | .stix q .. | .inc q .. | .push q | .pea q | .pop q | .link q | .unlink q
  | .lwShort q .. | .tlbnop q | .tlbpb q | .tlbrd q | .tlbwr q | .tlbwi q | .tlben q | .tlbdis q | .tlbrdreg q ..
  | .tlbwrreg q .. | .tlbinv q | .nop2 q | .rts4 q .. | .rte q | .rti q | .bcdadd q .. | .bcdsub q .. | .bcdmul q ..
  | .stp q .. | .sync q | .memsb q | .memdb q | .cli q | .sei q | .rtd q | .immFF q => some q

/-- The instruction's predicate is true in `s`, or it has none (10_state.md R34). -/
def State.predicateHolds (s : State) (i : Instr) : Bool :=
  match predicateOf i with
  | none => true
  | some q => s.holds q

/-- The end of a step: no prefix pending, the free values drawn anew. -/
def endStep (s : State) : State := { s with immPrefix := none, progress := .retired, clock := s.clock + 1 }

/-- A step that ends with the outcome `r`. -/
def closeStep (r : Result) : Result := andThen r fun t => .next (endStep t)

/-- A single-step exception follows the instruction `i`: DBCTRL bit 7 is set, it was not skipped, it completed, and the
mode before it was application, or SSTEP_IN_KERNEL (60_exceptions.md R595, R605 item 6; log 35). -/
def singleSteps (before : State) (i : Instr) (after : State) : Bool :=
  after.dbg.ctrl.getLsbD 7 && before.predicateHolds i && after.progress == .retired
    && (!before.kernel || Config.sstepInKernel)

/-- What follows the instruction `i`, begun in `s` and ended in `t`: the single-step exception at the new pc, or nothing
(60_exceptions.md R595). -/
def afterUnit (s : State) (i : Instr) (t : State) : Result :=
  if singleSteps s i t then closeStep (raiseException vecDebug (endStep t)) else .next (endStep t)

/-! ### The unit -/

/-- What a unit's bytes do: the instruction they decode to, and the end of the step (30_encoding.md R134). -/
def runBytes (ex : Instr → State → Result) (s : State) (u : UnitBytes) : Result :=
  match decode u.body with
  | .ok i => andThen (runDecoded ex s u.prefixBytes i) (afterUnit s i)
  | .error e => closeStep (rejectUnit s e)

/-- The unit at pc: fetched, decoded, run, the step ended (30_encoding.md R134, 60_exceptions.md R605). -/
def runUnit (ex : Instr → State → Result) (s : State) : Result :=
  match debugFetchCheck s (fetchUnitBytes s) with
  | .ok u => runBytes ex s u
  | .raise v t => closeStep (raiseException v t)
  | .fault f => .fault f
  | .refuse r => .refused r

/-! ### Interrupts -/

/-- An NMI is taken now (60_exceptions.md R573). -/
def takesNmi (s : State) : Bool := s.nmiEdges != 0 && (!s.hwi || Config.nmiNests)

/-- A maskable interrupt is taken now (60_exceptions.md R577); the clock runs (log 22). -/
def takesIrq (s : State) : Bool := s.pins.irq && !s.interruptMask && !s.hwi

/-- NMI entry: vector 254, one remembered edge used up, half the clock rate (60_exceptions.md R573, 10_state.md
R63). -/
def enterNmi (s : State) : Result := enterInterrupt vecNmi { s.restartClock with nmiEdges := s.nmiEdges - 1 }

/-- One step of the machine, with `ex` the meaning of an instruction: reset, a stopped clock, NMI, a maskable
interrupt, or the unit at pc, in the order of 60_exceptions.md R605. -/
def stepWith (ex : Instr → State → Result) (s : State) : Result :=
  let s0 := beginStep s
  if s0.pins.rst then .next (endStep (warmReset s0))
  else if s0.clk.stopped then .next (endStep s0)
  else if takesNmi s0 then closeStep (enterNmi s0)
  else if takesIrq s0 then closeStep (enterInterrupt s0.pins.vec s0)
  else runUnit ex s0

/-! ### Placing an instruction -/

/-- One byte placed at a physical address, seen by the next fetch. -/
def State.placeByte (s : State) (a : Nat) (b : Byte) : State :=
  { s with mem := s.mem.write a b, stale := s.stale.filter fun e => e.addr != a }

/-- Bytes placed where the unit at pc is fetched, from its byte `k` on; a byte whose address has no translation is
not placed. -/
def State.placeBytes (s : State) (k : Nat) : List Byte → State
  | [] => s
  | b :: bs =>
    match s.translate (s.fetchVa (8 + k) (seq s.pc k)) with
    | .hit p => State.placeBytes (s.placeByte p.pa.toNat b) (k + 1) bs
    | _ => State.placeBytes s (k + 1) bs

end Sys2Proof.Machine
end

