-- ==== Sys2Proof/Machine/Step.lean ====
section
/-! DEFINITION. The step of the machine, and the placing of an instruction where it fetches (60_exceptions.md R605;
log 42). -/

namespace Sys2Proof.Machine

/-- One step (60_exceptions.md R605). -/
def step (s : State) : Host.Outcome State Fault Refusal := stepWith exec s

/-- `s` with the instruction `w` of `nbits` bits stored where the next step fetches: sixteen bytes, more than the
longest unit has, from pc on (30_encoding.md R139; log 42). -/
def State.withFetchWord (s : State) (nbits w : Nat) : State := s.placeBytes 0 (bytesOfValue 16 (w % 2 ^ nbits))

end Sys2Proof.Machine
end

