-- ==== Sys2Proof/Safety.lean ====
section
/-! DEFINITION. What claims say of the machine: an instruction's predicate and the registers it names, what a result
changes and what it leaves, when a data access succeeds, and the machine's invariant. -/

namespace Sys2Proof.Machine

/-! ### Instructions as syntax -/

/-- The general registers that an instruction's fields name; the TLB commands, whose privilege check comes first, list
none (10_state.md R23; log 33). -/
def registersNamed (i : Instr) : List Reg :=
  match i with
  | .brk | .nop1 | .rts1 | .imm16 .. | .imm24 .. | .imm32 .. | .imm40 .. | .imm48 .. | .imm56 .. | .imm64 .. | .br ..
  | .pand .. | .por .. | .peor .. | .pnand .. | .pnor .. | .penor .. | .pandc .. | .porc .. | .fmac .. | .fmov ..
  | .ftoi .. | .itof .. | .fneg .. | .fabs .. | .fsign .. | .fman .. | .fnabs .. | .fstat .. | .frm .. | .fcmp ..
  | .fadd .. | .fsub .. | .fmul .. | .fdiv .. | .fcmps .. | .fadds .. | .fsubs .. | .fmuls .. | .fdivs .. | .fmovs ..
  | .ftois .. | .itofs .. | .fnegs .. | .fabss .. | .fsigns .. | .fmans .. | .fnabss .. | .ftx .. | .fcx .. | .fex ..
  | .fdx .. | .ftst .. | .fstst .. | .fscmp .. | .lfs .. | .lfd .. | .sfs .. | .sfd .. | .ldis .. | .cacheInvI ..
  | .cacheInvD .. | .jsr3 .. | .jsr5 .. | .jsr6 .. | .rts3 .. | .loop .. | .sys .. | .int .. | .movs .. | .push ..
  | .pea .. | .pop .. | .link .. | .unlink .. | .tlbnop .. | .tlbpb .. | .tlbrd .. | .tlbwr .. | .tlbwi ..
  | .tlben .. | .tlbdis .. | .tlbrdreg .. | .tlbwrreg .. | .tlbinv .. | .nop2 .. | .rts4 .. | .rte .. | .rti ..
  | .stp .. | .sync .. | .memsb .. | .memdb .. | .cli .. | .sei .. | .rtd .. | .immFF .. => []
  | .tst _ _ ra | .cmpi _ _ ra .. | .biti _ _ ra .. | .jci _ _ _ ra .. | .jhi _ _ _ ra .. | .jwi _ _ _ ra ..
  | .lws _ _ _ ra .. | .lcl _ _ _ ra .. | .sti _ _ _ ra .. | .sws _ _ _ ra .. | .cacheInvILine _ ra
  | .cacheInvDLine _ ra | .mtspr _ _ ra | .inc _ _ _ _ ra .. => [ra]
  | .cmp _ _ ra rb | .stset _ _ _ _ ra rb | .jcix _ _ _ ra rb | .jhix _ _ _ ra rb | .jwix _ _ _ ra rb
  | .stix _ _ _ ra rb => [ra, rb]
  | .add _ rt ra rb | .sub _ rt ra rb | .mul _ rt ra rb | .div _ rt ra rb | .addu _ rt ra rb | .subu _ rt ra rb
  | .mulu _ rt ra rb | .divu _ rt ra rb | .addu2 _ rt ra rb | .addu4 _ rt ra rb | .addu8 _ rt ra rb
  | .addu16 _ rt ra rb | .min _ rt ra rb | .max _ rt ra rb | .and _ rt ra rb | .or _ rt ra rb | .eor _ rt ra rb
  | .nand _ rt ra rb | .nor _ rt ra rb | .enor _ rt ra rb | .andc _ rt ra rb | .orc _ rt ra rb | .shl _ rt ra rb
  | .shr _ rt ra rb | .shlu _ rt ra rb | .shru _ rt ra rb | .rol _ rt ra rb | .ror _ rt ra rb | .lbx _ _ _ rt ra rb
  | .lbux _ _ _ rt ra rb | .lcx _ _ _ rt ra rb | .lcux _ _ _ rt ra rb | .lhx _ _ _ rt ra rb | .lhux _ _ _ rt ra rb
  | .lwx _ _ _ rt ra rb | .bcdadd _ rt ra rb | .bcdsub _ rt ra rb | .bcdmul _ rt ra rb => [rt, ra, rb]
  | .cpuid _ rt ra | .redor _ rt ra | .redand _ rt ra | .par _ rt ra | .addi _ rt ra .. | .subi _ rt ra ..
  | .muli _ rt ra .. | .divi _ rt ra .. | .addui _ rt ra .. | .subui _ rt ra .. | .mului _ rt ra ..
  | .divui _ rt ra .. | .andi _ rt ra .. | .ori _ rt ra .. | .eori _ rt ra .. | .shli _ rt ra .. | .shri _ rt ra ..
  | .shlui _ rt ra .. | .shrui _ rt ra .. | .roli _ rt ra .. | .rori _ rt ra .. | .addui2 _ rt ra ..
  | .addui4 _ rt ra .. | .addui8 _ rt ra .. | .addui16 _ rt ra .. | .lb _ _ rt ra .. | .lbu _ _ rt ra ..
  | .lc _ _ rt ra .. | .lcu _ _ rt ra .. | .lh _ _ rt ra .. | .lhu _ _ rt ra .. | .lw _ _ rt ra ..
  | .lvwar _ _ rt ra .. | .mov _ rt ra | .neg _ rt ra | .not _ rt ra | .abs _ rt ra | .sgn _ rt ra | .cntlz _ rt ra
  | .cntlo _ rt ra | .cntpop _ rt ra | .sxb _ rt ra | .sxc _ rt ra | .sxh _ rt ra | .com _ rt ra | .zxb _ rt ra
  | .zxc _ rt ra | .zxh _ rt ra | .bfins _ rt ra .. | .bfset _ rt ra .. | .bfclr _ rt ra .. | .bfchg _ rt ra ..
  | .bfextu _ rt ra .. | .bfext _ rt ra .. | .lvb _ _ rt ra .. | .lvc _ _ rt ra .. | .lvh _ _ rt ra ..
  | .lvw _ _ rt ra .. | .lwShort _ _ rt ra => [rt, ra]
  | .adduiShort _ rt .. | .ldi _ rt .. | .mfspr _ rt .. | .bfinsi _ rt .. => [rt]
  | .mlo _ rt ra rb rc | .mux _ rt ra rb rc | .cas _ rt ra rb rc .. => [rt, ra, rb, rc]
  | .swcr _ _ rs ra .. | .sb _ _ rs ra .. | .sc _ _ rs ra .. | .sh _ _ rs ra .. | .sw _ _ rs ra .. => [rs, ra]
  | .stmov _ _ _ _ ra rb rc | .stcmp _ _ _ _ ra rb rc | .stfnd _ _ _ _ ra rb rc => [ra, rb, rc]
  | .sbx _ _ _ rs ra rb | .scx _ _ _ rs ra rb | .shx _ _ _ rs ra rb | .swx _ _ _ rs ra rb => [rs, ra, rb]

/-- The names that stand in the opcode map only (47_map_only.md R540). -/
def mapOnly (i : Instr) : Bool :=
  match i with
  | .brk | .nop1 | .rts1 | .imm16 .. | .imm24 .. | .imm32 .. | .imm40 .. | .imm48 .. | .imm56 .. | .imm64 ..
  | .tst .. | .cmp .. | .cmpi .. | .br .. | .add .. | .sub .. | .mul .. | .div .. | .addu .. | .subu .. | .mulu ..
  | .divu .. | .addu2 .. | .addu4 .. | .addu8 .. | .addu16 .. | .min .. | .max .. | .cpuid .. | .pand .. | .por ..
  | .peor .. | .pnand .. | .pnor .. | .penor .. | .pandc .. | .porc .. | .biti .. | .adduiShort .. | .addi ..
  | .subi .. | .muli .. | .divi .. | .addui .. | .subui .. | .mului .. | .divui .. | .and .. | .or .. | .eor ..
  | .nand .. | .nor .. | .enor .. | .andc .. | .orc .. | .mlo .. | .andi .. | .ori .. | .eori .. | .shl .. | .shr ..
  | .shlu .. | .shru .. | .rol .. | .ror .. | .shli .. | .shri .. | .shlui .. | .shrui .. | .roli .. | .rori ..
  | .addui2 .. | .addui4 .. | .addui8 .. | .addui16 .. | .ldi .. | .mux .. | .lb .. | .lbu .. | .lc .. | .lcu ..
  | .lh .. | .lhu .. | .lw .. | .lvwar .. | .swcr .. | .jci .. | .jhi .. | .jwi .. | .lws .. | .lcl .. | .sb ..
  | .sc .. | .sh .. | .sw .. | .sti .. | .cas .. | .stset .. | .stmov .. | .stcmp .. | .stfnd .. | .ldis .. | .sws ..
  | .cacheInvI .. | .cacheInvILine .. | .cacheInvD .. | .cacheInvDLine .. | .jsr3 .. | .jsr5 .. | .jsr6 .. | .rts3 ..
  | .loop .. | .sys .. | .int .. | .mov .. | .neg .. | .not .. | .abs .. | .cntlz .. | .cntlo .. | .cntpop ..
  | .sxb .. | .sxc .. | .sxh .. | .com .. | .zxb .. | .zxc .. | .zxh .. | .mfspr .. | .mtspr .. | .bfins ..
  | .bfset .. | .bfclr .. | .bfchg .. | .bfextu .. | .bfext .. | .bfinsi .. | .movs .. | .lvb .. | .lvc .. | .lvh ..
  | .lvw .. | .lbx .. | .lbux .. | .lcx .. | .lcux .. | .lhx .. | .lhux .. | .lwx .. | .jcix .. | .jhix .. | .jwix ..
  | .sbx .. | .scx .. | .shx .. | .swx .. | .stix .. | .inc .. | .lwShort .. | .tlbnop .. | .tlbpb .. | .tlbrd ..
  | .tlbwr .. | .tlbwi .. | .tlben .. | .tlbdis .. | .tlbrdreg .. | .tlbwrreg .. | .tlbinv .. | .nop2 .. | .rts4 ..
  | .rte .. | .rti .. | .bcdadd .. | .bcdsub .. | .bcdmul .. | .stp .. | .sync .. | .memsb .. | .memdb .. | .cli ..
  | .sei .. | .rtd .. => false
  | .redor .. | .redand .. | .par .. | .fmac .. | .fmov .. | .ftoi .. | .itof .. | .fneg .. | .fabs .. | .fsign ..
  | .fman .. | .fnabs .. | .fstat .. | .frm .. | .fcmp .. | .fadd .. | .fsub .. | .fmul .. | .fdiv .. | .fcmps ..
  | .fadds .. | .fsubs .. | .fmuls .. | .fdivs .. | .fmovs .. | .ftois .. | .itofs .. | .fnegs .. | .fabss ..
  | .fsigns .. | .fmans .. | .fnabss .. | .ftx .. | .fcx .. | .fex .. | .fdx .. | .ftst .. | .fstst .. | .fscmp ..
  | .lfs .. | .lfd .. | .sfs .. | .sfd .. | .sgn .. | .push .. | .pea .. | .pop .. | .link .. | .unlink ..
  | .immFF .. => true

/-- The instructions that write memory (20_memory.md R81). -/
def storesToMemory (i : Instr) : Bool :=
  match i with
  | .brk | .nop1 | .rts1 | .imm16 .. | .imm24 .. | .imm32 .. | .imm40 .. | .imm48 .. | .imm56 .. | .imm64 ..
  | .tst .. | .cmp .. | .cmpi .. | .br .. | .add .. | .sub .. | .mul .. | .div .. | .addu .. | .subu .. | .mulu ..
  | .divu .. | .addu2 .. | .addu4 .. | .addu8 .. | .addu16 .. | .min .. | .max .. | .cpuid .. | .redor ..
  | .redand .. | .par .. | .pand .. | .por .. | .peor .. | .pnand .. | .pnor .. | .penor .. | .pandc .. | .porc ..
  | .biti .. | .adduiShort .. | .addi .. | .subi .. | .muli .. | .divi .. | .addui .. | .subui .. | .mului ..
  | .divui .. | .and .. | .or .. | .eor .. | .nand .. | .nor .. | .enor .. | .andc .. | .orc .. | .mlo .. | .andi ..
  | .ori .. | .eori .. | .shl .. | .shr .. | .shlu .. | .shru .. | .rol .. | .ror .. | .shli .. | .shri ..
  | .shlui .. | .shrui .. | .roli .. | .rori .. | .addui2 .. | .addui4 .. | .addui8 .. | .addui16 .. | .ldi ..
  | .mux .. | .fmac .. | .fmov .. | .ftoi .. | .itof .. | .fneg .. | .fabs .. | .fsign .. | .fman .. | .fnabs ..
  | .fstat .. | .frm .. | .fcmp .. | .fadd .. | .fsub .. | .fmul .. | .fdiv .. | .fcmps .. | .fadds .. | .fsubs ..
  | .fmuls .. | .fdivs .. | .fmovs .. | .ftois .. | .itofs .. | .fnegs .. | .fabss .. | .fsigns .. | .fmans ..
  | .fnabss .. | .ftx .. | .fcx .. | .fex .. | .fdx .. | .ftst .. | .fstst .. | .fscmp .. | .lb .. | .lbu .. | .lc ..
  | .lcu .. | .lh .. | .lhu .. | .lw .. | .lfs .. | .lfd .. | .lvwar .. | .jci .. | .jhi .. | .jwi .. | .lws ..
  | .lcl .. | .sfs .. | .sfd .. | .stcmp .. | .stfnd .. | .ldis .. | .cacheInvI .. | .cacheInvILine ..
  | .cacheInvD .. | .cacheInvDLine .. | .jsr3 .. | .jsr5 .. | .jsr6 .. | .rts3 .. | .loop .. | .sys .. | .int ..
  | .mov .. | .neg .. | .not .. | .abs .. | .sgn .. | .cntlz .. | .cntlo .. | .cntpop .. | .sxb .. | .sxc ..
  | .sxh .. | .com .. | .zxb .. | .zxc .. | .zxh .. | .mfspr .. | .mtspr .. | .bfins .. | .bfset .. | .bfclr ..
  | .bfchg .. | .bfextu .. | .bfext .. | .bfinsi .. | .movs .. | .lvb .. | .lvc .. | .lvh .. | .lvw .. | .lbx ..
  | .lbux .. | .lcx .. | .lcux .. | .lhx .. | .lhux .. | .lwx .. | .jcix .. | .jhix .. | .jwix .. | .push ..
  | .pea .. | .pop .. | .link .. | .unlink .. | .lwShort .. | .tlbnop .. | .tlbpb .. | .tlbrd .. | .tlbwr ..
  | .tlbwi .. | .tlben .. | .tlbdis .. | .tlbrdreg .. | .tlbwrreg .. | .tlbinv .. | .nop2 .. | .rts4 .. | .rte ..
  | .rti .. | .bcdadd .. | .bcdsub .. | .bcdmul .. | .stp .. | .sync .. | .memsb .. | .memdb .. | .cli .. | .sei ..
  | .rtd .. | .immFF .. => false
  | .swcr .. | .sb .. | .sc .. | .sh .. | .sw .. | .sti .. | .cas .. | .stset .. | .stmov .. | .sws .. | .sbx ..
  | .scx .. | .shx .. | .swx .. | .stix .. | .inc .. => true

/-- The instructions that write a predicate register (41_compare_predicate.md R220): compares, predicate logic, SWCR,
and the moves to special registers. -/
def writesPredicates (i : Instr) : Bool :=
  match i with
  | .brk | .nop1 | .rts1 | .imm16 .. | .imm24 .. | .imm32 .. | .imm40 .. | .imm48 .. | .imm56 .. | .imm64 .. | .br ..
  | .add .. | .sub .. | .mul .. | .div .. | .addu .. | .subu .. | .mulu .. | .divu .. | .addu2 .. | .addu4 ..
  | .addu8 .. | .addu16 .. | .min .. | .max .. | .cpuid .. | .redor .. | .redand .. | .par .. | .adduiShort ..
  | .addi .. | .subi .. | .muli .. | .divi .. | .addui .. | .subui .. | .mului .. | .divui .. | .and .. | .or ..
  | .eor .. | .nand .. | .nor .. | .enor .. | .andc .. | .orc .. | .mlo .. | .andi .. | .ori .. | .eori .. | .shl ..
  | .shr .. | .shlu .. | .shru .. | .rol .. | .ror .. | .shli .. | .shri .. | .shlui .. | .shrui .. | .roli ..
  | .rori .. | .addui2 .. | .addui4 .. | .addui8 .. | .addui16 .. | .ldi .. | .mux .. | .fmac .. | .fmov ..
  | .ftoi .. | .itof .. | .fneg .. | .fabs .. | .fsign .. | .fman .. | .fnabs .. | .fstat .. | .frm .. | .fcmp ..
  | .fadd .. | .fsub .. | .fmul .. | .fdiv .. | .fcmps .. | .fadds .. | .fsubs .. | .fmuls .. | .fdivs .. | .fmovs ..
  | .ftois .. | .itofs .. | .fnegs .. | .fabss .. | .fsigns .. | .fmans .. | .fnabss .. | .ftx .. | .fcx .. | .fex ..
  | .fdx .. | .ftst .. | .fstst .. | .fscmp .. | .lb .. | .lbu .. | .lc .. | .lcu .. | .lh .. | .lhu .. | .lw ..
  | .lfs .. | .lfd .. | .lvwar .. | .jci .. | .jhi .. | .jwi .. | .lcl .. | .sb .. | .sc .. | .sh .. | .sw ..
  | .sfs .. | .sfd .. | .sti .. | .cas .. | .stset .. | .stmov .. | .stcmp .. | .stfnd .. | .sws .. | .cacheInvI ..
  | .cacheInvILine .. | .cacheInvD .. | .cacheInvDLine .. | .jsr3 .. | .jsr5 .. | .jsr6 .. | .rts3 .. | .loop ..
  | .sys .. | .int .. | .mov .. | .neg .. | .not .. | .abs .. | .sgn .. | .cntlz .. | .cntlo .. | .cntpop ..
  | .sxb .. | .sxc .. | .sxh .. | .com .. | .zxb .. | .zxc .. | .zxh .. | .mfspr .. | .bfins .. | .bfset ..
  | .bfclr .. | .bfchg .. | .bfextu .. | .bfext .. | .bfinsi .. | .lvb .. | .lvc .. | .lvh .. | .lvw .. | .lbx ..
  | .lbux .. | .lcx .. | .lcux .. | .lhx .. | .lhux .. | .lwx .. | .jcix .. | .jhix .. | .jwix .. | .sbx .. | .scx ..
  | .shx .. | .swx .. | .stix .. | .inc .. | .push .. | .pea .. | .pop .. | .link .. | .unlink .. | .lwShort ..
  | .tlbnop .. | .tlbpb .. | .tlbrd .. | .tlbwr .. | .tlbwi .. | .tlben .. | .tlbdis .. | .tlbrdreg .. | .tlbwrreg ..
  | .tlbinv .. | .nop2 .. | .rts4 .. | .rte .. | .rti .. | .bcdadd .. | .bcdsub .. | .bcdmul .. | .stp .. | .sync ..
  | .memsb .. | .memdb .. | .cli .. | .sei .. | .rtd .. | .immFF .. => false
  | .tst .. | .cmp .. | .cmpi .. | .pand .. | .por .. | .peor .. | .pnand .. | .pnor .. | .penor .. | .pandc ..
  | .porc .. | .biti .. | .swcr .. | .lws .. | .ldis .. | .mtspr .. | .movs .. => true

/-- The instructions that write the mode themselves: calls into the vector table and returns (60_exceptions.md R561,
R583). -/
def changesMode (i : Instr) : Bool :=
  match i with
  | .brk | .sys .. | .int .. | .rte .. | .rti .. | .rtd .. => true
  | .nop1 | .rts1 | .imm16 .. | .imm24 .. | .imm32 .. | .imm40 .. | .imm48 .. | .imm56 .. | .imm64 .. | .tst ..
  | .cmp .. | .cmpi .. | .br .. | .add .. | .sub .. | .mul .. | .div .. | .addu .. | .subu .. | .mulu .. | .divu ..
  | .addu2 .. | .addu4 .. | .addu8 .. | .addu16 .. | .min .. | .max .. | .cpuid .. | .redor .. | .redand .. | .par ..
  | .pand .. | .por .. | .peor .. | .pnand .. | .pnor .. | .penor .. | .pandc .. | .porc .. | .biti ..
  | .adduiShort .. | .addi .. | .subi .. | .muli .. | .divi .. | .addui .. | .subui .. | .mului .. | .divui ..
  | .and .. | .or .. | .eor .. | .nand .. | .nor .. | .enor .. | .andc .. | .orc .. | .mlo .. | .andi .. | .ori ..
  | .eori .. | .shl .. | .shr .. | .shlu .. | .shru .. | .rol .. | .ror .. | .shli .. | .shri .. | .shlui ..
  | .shrui .. | .roli .. | .rori .. | .addui2 .. | .addui4 .. | .addui8 .. | .addui16 .. | .ldi .. | .mux ..
  | .fmac .. | .fmov .. | .ftoi .. | .itof .. | .fneg .. | .fabs .. | .fsign .. | .fman .. | .fnabs .. | .fstat ..
  | .frm .. | .fcmp .. | .fadd .. | .fsub .. | .fmul .. | .fdiv .. | .fcmps .. | .fadds .. | .fsubs .. | .fmuls ..
  | .fdivs .. | .fmovs .. | .ftois .. | .itofs .. | .fnegs .. | .fabss .. | .fsigns .. | .fmans .. | .fnabss ..
  | .ftx .. | .fcx .. | .fex .. | .fdx .. | .ftst .. | .fstst .. | .fscmp .. | .lb .. | .lbu .. | .lc .. | .lcu ..
  | .lh .. | .lhu .. | .lw .. | .lfs .. | .lfd .. | .lvwar .. | .swcr .. | .jci .. | .jhi .. | .jwi .. | .lws ..
  | .lcl .. | .sb .. | .sc .. | .sh .. | .sw .. | .sfs .. | .sfd .. | .sti .. | .cas .. | .stset .. | .stmov ..
  | .stcmp .. | .stfnd .. | .ldis .. | .sws .. | .cacheInvI .. | .cacheInvILine .. | .cacheInvD ..
  | .cacheInvDLine .. | .jsr3 .. | .jsr5 .. | .jsr6 .. | .rts3 .. | .loop .. | .mov .. | .neg .. | .not .. | .abs ..
  | .sgn .. | .cntlz .. | .cntlo .. | .cntpop .. | .sxb .. | .sxc .. | .sxh .. | .com .. | .zxb .. | .zxc ..
  | .zxh .. | .mfspr .. | .mtspr .. | .bfins .. | .bfset .. | .bfclr .. | .bfchg .. | .bfextu .. | .bfext ..
  | .bfinsi .. | .movs .. | .lvb .. | .lvc .. | .lvh .. | .lvw .. | .lbx .. | .lbux .. | .lcx .. | .lcux .. | .lhx ..
  | .lhux .. | .lwx .. | .jcix .. | .jhix .. | .jwix .. | .sbx .. | .scx .. | .shx .. | .swx .. | .stix .. | .inc ..
  | .push .. | .pea .. | .pop .. | .link .. | .unlink .. | .lwShort .. | .tlbnop .. | .tlbpb .. | .tlbrd ..
  | .tlbwr .. | .tlbwi .. | .tlben .. | .tlbdis .. | .tlbrdreg .. | .tlbwrreg .. | .tlbinv .. | .nop2 .. | .rts4 ..
  | .bcdadd .. | .bcdsub .. | .bcdmul .. | .stp .. | .sync .. | .memsb .. | .memdb .. | .cli .. | .sei ..
  | .immFF .. => false

/-! ### Encoding tables -/

/-- The table of lengths by the first byte and the opcode byte; none where it says "not defined" (30_encoding.md
R131). -/
def tableLength (b op : Nat) : Option Nat :=
  if b = 0x00 ∨ b = 0x10 ∨ b = 0x11 then some 1
  else if b % 16 = 0 ∧ 0x20 ≤ b ∧ b ≤ 0x80 then some (b / 16)
  else if op ∈ [0xF1, 0xF3, 0xF4, 0xF7, 0xF8, 0xF9, 0xFA, 0xFB, 0xFC] then some 2
  else if op ≤ 0x0F ∨ (0x30 ≤ op ∧ op ≤ 0x3F) ∨ op ∈ [0xA0, 0xA3, 0xA4] then some 3
  else if (0x10 ≤ op ∧ op ≤ 0x2F) ∨ op ∈ [0x41, 0x47, 0x6F, 0x9D, 0x9F, 0xAB, 0xD6, 0xF0, 0xF2, 0xF6] ∨
      (0xA5 ≤ op ∧ op ≤ 0xA9) then some 4
  else if op ∈ [0x97, 0xA2, 0xAA, 0xC7] then some 6
  else if op ∈ [0x40, 0x42, 0x46, 0x50, 0x51, 0x53, 0x54, 0x55, 0x58, 0x72, 0x96, 0x9E, 0xA1, 0xC6, 0xF5] ∨
      (0x48 ≤ op ∧ op ≤ 0x4F) ∨ (0x6B ≤ op ∧ op ≤ 0x6E) ∨ (0x80 ≤ op ∧ op ≤ 0x86) ∨ (0x8B ≤ op ∧ op ≤ 0x8F) ∨
      (0x90 ≤ op ∧ op ≤ 0x93) ∨ (0x98 ≤ op ∧ op ≤ 0x9B) ∨ (0xAC ≤ op ∧ op ≤ 0xB7) ∨ (0xC0 ≤ op ∧ op ≤ 0xC3) then
    some 5
  else none

/-- The opcode bytes that stand in the opcode map only (47_map_only.md R545, R547, R549, R550). -/
def mapOnlyOpcodes : List Nat :=
  [0x76, 0x77, 0x78, 0x79, 0x87, 0x88, 0x94, 0x95, 0xC8, 0xC9, 0xCA, 0xCB, 0xCC, 0xFF]

/-- The opcode bytes of the formats that R142 marks "prefix allowed": RI, RI10, BITI, MEM, JI, INC, CAS, JSR5 and JSR6;
the second list is CMPI, whose low nibble is a register (30_encoding.md R142). -/
def immediateOpcodes : List Nat :=
  [0x46, 0x47, 0x48, 0x49, 0x4A, 0x4B, 0x4C, 0x4D, 0x4E, 0x4F, 0x53, 0x54, 0x55, 0x6B, 0x6C, 0x6D, 0x6E, 0x6F,
    0x80, 0x81, 0x82, 0x83, 0x84, 0x85, 0x86, 0x8B, 0x8C, 0x8D, 0x8E, 0x8F, 0x90, 0x91, 0x92, 0x93, 0x96, 0x97, 0x9D,
    0x9E, 0xA1, 0xA2, 0xAC, 0xAD, 0xAE, 0xAF, 0xC7] ++
  [0x20, 0x21, 0x22, 0x23, 0x24, 0x25, 0x26, 0x27, 0x28, 0x29, 0x2A, 0x2B, 0x2C, 0x2D, 0x2E, 0x2F]

/-- An instruction of format RR as one number (30_encoding.md R143). -/
def formatRR (q : Pred) (op func : Nat) (rt ra rb : Reg) : Nat :=
  predByte q + 2 ^ 8 * op + 2 ^ 16 * ra.toNat + 2 ^ 22 * rb.toNat + 2 ^ 28 * rt.toNat + 2 ^ 34 * func

/-- An instruction of format R as one number (30_encoding.md R146). -/
def formatR (q : Pred) (op func : Nat) (rt ra : Reg) : Nat :=
  predByte q + 2 ^ 8 * op + 2 ^ 16 * ra.toNat + 2 ^ 22 * rt.toNat + 2 ^ 28 * func

/-! ### Outcomes -/

/-- `a[63:32] : ((a[31:0] + d) mod 2^32)` (40_control_transfer.md R181, 10_state.md R31). -/
def lowAdd (a : Word) (d : Int) : Word :=
  BitVec.ofNat 64 (a.toNat / 2 ^ 32 * 2 ^ 32 + (((a.toNat % 2 ^ 32 : Nat) + d) % 2 ^ 32).toNat)

/-- The two states hold the same byte at every address, as a read finds it. -/
def SameMemory (s t : State) : Prop := ∀ a, t.mem.read a = s.mem.read a

/-- The predicate is true and the named registers are allowed in the current mode (10_state.md R23, R34). -/
structure State.Executes (s : State) (q : Pred) (named : List Reg) : Prop where
  holds : s.holds q = true
  allows : s.allows named = true

/-- `t` is `s` after one general register got `v` (a write to r0 is discarded, 10_state.md R21) and the program
counter went to `npc`; nothing else changed. -/
structure WritesReg (s t : State) (rt : Reg) (v npc : Word) : Prop where
  target : t.reg rt = if rt = 0 then 0 else v
  others : ∀ r, r ≠ rt → t.reg r = s.reg r
  pc : t.pc = npc
  memory : SameMemory s t
  rest : { t with regs := s.regs, pc := s.pc } = s

/-- `t` is `s` after one predicate register got `v` and the program counter went to `npc`; nothing else changed. -/
structure WritesPred (s t : State) (pt : PredReg) (v : BitVec 4) (npc : Word) : Prop where
  target : t.pred pt = v
  others : ∀ r, r ≠ pt → t.pred r = s.pred r
  pc : t.pc = npc
  memory : SameMemory s t
  rest : { t with preds := s.preds, pc := s.pc } = s

/-- `t` is `s` after the low `n` bytes of `v` were stored at the physical address of `p`, bits 7..0 lowest where no
device answers, with the dirty bit of the entry the access went through (20_memory.md R82, R93); what fetches may still
see of old bytes grows by the bytes that the store overwrote with another value, and by no other (R117; log 19).
Registers, program counter and the rest are not spoken of. -/
structure StoresBytes (s t : State) (p : Phys) (n : Nat) (v : Word) : Prop where
  stored : ∀ k, k < n → s.isDevice (p.pa.toNat + k) = false →
    t.mem.read (p.pa.toNat + k) = (v >>> (8 * k)).setWidth 8
  outside : ∀ a, a < p.pa.toNat ∨ p.pa.toNat + n ≤ a → t.mem.read a = s.mem.read a
  untranslated : p.entry = none → t.tlb = s.tlb
  dirty : ∀ i, p.entry = some i →
    t.tlb = { s.tlb with entries := s.tlb.entries.set i.toNat { s.tlbEntry i with d := true } i.isLt }
  stale : ∀ e, e ∈ t.stale ↔ e ∈ s.stale ∨ ∃ k, k < n ∧ s.isDevice (p.pa.toNat + k) = false ∧
    s.mem.read (p.pa.toNat + k) ≠ (v >>> (8 * k)).setWidth 8 ∧
    e = { addr := p.pa.toNat + k, old := s.mem.read (p.pa.toNat + k), invalidated := false }

/-- `t` is `s` after a store, the program counter at `npc`; nothing else changed. -/
structure Stores (s t : State) (p : Phys) (n : Nat) (v npc : Word) : Prop where
  bytes : StoresBytes s t p n v
  pc : t.pc = npc
  rest : { t with mem := s.mem, stale := s.stale, tlb := s.tlb, pc := s.pc } = s

/-- The instruction answers a next state in which only `rt` and the program counter changed. -/
def completesReg (r : Result) (s : State) (len : Nat) (rt : Reg) (v : Word) : Prop :=
  ∃ t, r = .next t ∧ WritesReg s t rt v (s.npc len)

/-- The instruction answers a next state in which only `pt` and the program counter changed. -/
def completesPred (r : Result) (s : State) (len : Nat) (pt : PredReg) (v : BitVec 4) : Prop :=
  ∃ t, r = .next t ∧ WritesPred s t pt v (s.npc len)

/-- The instruction answers a next state in which only the stored bytes and the program counter changed. -/
def completesStore (r : Result) (s : State) (len : Nat) (p : Phys) (n : Nat) (v : Word) : Prop :=
  ∃ t, r = .next t ∧ Stores s t p n v (s.npc len)

/-- The exact signed result is written when it fits 64 bits, else Overflow(240) is raised (42_arithmetic.md R251). -/
def completesChecked (r : Result) (s : State) (len : Nat) (rt : Reg) (v : Int) : Prop :=
  if -(2 ^ 63) ≤ v ∧ v < 2 ^ 63 then completesReg r s len rt (BitVec.ofInt 64 v) else r = raiseException 240 s

/-- The instruction writes `rt` with a word whose bit `j` is `f j`. -/
def completesBits (r : Result) (s : State) (len : Nat) (rt : Reg) (f : Nat → Bool) : Prop :=
  ∃ v : Word, completesReg r s len rt v ∧ ∀ j, j < 64 → v.getLsbD j = f j

/-- The instruction answers a next state in which only one predicate bit and the program counter changed
(41_compare_predicate.md R229). -/
def completesBit (r : Result) (s : State) (bt : PredBit) (v : Bool) : Prop :=
  ∃ t, r = .next t ∧ t.predBit bt = v ∧ (∀ b, b ≠ bt → t.predBit b = s.predBit b) ∧ t.pc = s.npc 5 ∧
    SameMemory s t ∧ { t with preds := s.preds, pc := s.pc } = s

/-- The instruction answers a next state in which the program counter is `target` and code address register `ct`
holds `link` (C0 and C15 discard it, 10_state.md R27, R29); nothing else changed. -/
def completesJump (r : Result) (s : State) (ct : CodeReg) (link target : Word) : Prop :=
  ∃ t, r = .next t ∧ t.pc = target ∧
    (∀ n c, t.codeReg n c = if c = ct ∧ c ≠ 0 ∧ c ≠ 15 then link else s.codeReg n c) ∧
    SameMemory s t ∧ { t with code := s.code, pc := s.pc } = s

/-- The instruction answers a next state in which only the program counter changed. -/
def completesPc (r : Result) (s : State) (target : Word) : Prop :=
  ∃ t, r = .next t ∧ t.pc = target ∧ SameMemory s t ∧ { t with pc := s.pc } = s

/-- The instruction writes `pt` with these three flags and bit 3 clear (41_compare_predicate.md R221). -/
def completesFlags (r : Result) (s : State) (len : Nat) (pt : PredReg) (eq lt ltu : Bool) : Prop :=
  ∃ v, completesPred r s len pt v ∧ v.getLsbD 0 = eq ∧ v.getLsbD 1 = lt ∧ v.getLsbD 2 = ltu ∧ v.getLsbD 3 = false

/-- `t` is `s` after the entry of a synchronous exception with vector `v` and saved address `a`: DPC for the debug
vector, EPC for every other (60_exceptions.md R568, R589); nothing else changed. -/
structure TakesException (s t : State) (v : BitVec 8) (a : Word) : Prop where
  saved : ∀ n c, t.codeReg n c = if c = (if v = 243 then 11 else 13) then a else s.codeReg n c
  level : t.exl.toNat = min (s.exl.toNat + 1) 255
  cause : Config.excModel = .vector → t.exc = zext v
  pc : t.pc = s.vectorBase + 16 * zext v
  noted : t.progress = .raised
  memory : SameMemory s t
  rest : { t with code := s.code, exl := s.exl, exc := s.exc, pc := s.pc, progress := s.progress } = s

/-- The exception is taken: a next state, the entry of vector `v` from `s`. -/
def raises (r : Result) (s : State) (v : BitVec 8) (a : Word) : Prop := ∃ t, r = .next t ∧ TakesException s t v a

/-- The vector's address lies in the non-segmented code area (60_exceptions.md R567). -/
def State.vectorInArea (s : State) (v : BitVec 8) : Prop := (s.vectorBase + 16 * zext v).extractLsb' 60 4 = 15

/-- `t` is `s` after an interrupt entry with vector `v` and saved address `a`, whatever EXC holds (60_exceptions.md
R572, 46_system.md R482): SR's backup half is the low half as it was, its S bit the mode (10_state.md R38, R40; log 6);
nothing else changed. -/
structure EntersInterrupt (s t : State) (v : BitVec 8) (a : Word) : Prop where
  saved : ∀ n c, t.codeReg n c = if c = 14 then a else s.codeReg n c
  backup : t.statusRegister.extractLsb' 16 16 = s.statusRegister.extractLsb' 0 16
  mask : t.sr.getLsbD 15 = true
  flags : t.sr.extractLsb' 0 15 = s.sr.extractLsb' 0 15
  mode : t.hwi = true
  pc : t.pc = s.vectorBase + 16 * zext v
  memory : SameMemory s t
  rest : { t with code := s.code, sr := s.sr, hwi := s.hwi, pc := s.pc, exc := s.exc } = s

/-- `t` is `s` after `spr_write(n, v)` with the program counter at `npc`: what each number writes, and nothing else
(46_system.md R491; a write of C0, C15 or a read-only register is discarded). -/
structure SprWritten (s t : State) (n : SprNum) (v npc : Word) : Prop where
  preds : ∀ k, t.pred k = if n.toNat = k.toNat then v.setWidth 4
    else if n = 52 then v.extractLsb' (4 * k.toNat) 4 else s.pred k
  code : ∀ m c, t.codeReg m c = if n.toNat = 16 + c.toNat ∧ c ≠ 0 ∧ c ≠ 15 then v else s.codeReg m c
  base : ∀ k : SegReg, t.segs.base[k.toNat] = if n.toNat = 32 + k.toNat then v else s.segs.base[k.toNat]
  limit : ∀ k : SegReg, t.segs.limit[k.toNat] = if n.toNat = 40 + k.toNat then v else s.segs.limit[k.toNat]
  used : t.segs.baseUsed = s.segs.baseUsed ∧ t.segs.limitUsed = s.segs.limitUsed
  lc : t.lc = if n = 51 then v else s.lc
  asid : t.asid = if n = 53 then v.setWidth 8 else s.asid
  exc : t.exc = if n = 59 then v else s.exc
  bir : t.bir = if n = 60 then v.setWidth 6 else s.bir
  dbad : ∀ k : BitVec 2, t.dbg.addr[k.toNat] = if n = 61 ∧ s.bir.toNat = k.toNat then v else s.dbg.addr[k.toNat]
  dbctrl : t.dbg.ctrl = if n = 61 ∧ s.bir = 4 then v else s.dbg.ctrl
  dbstat : t.dbg.stat = if n = 61 ∧ s.bir = 5 then v else s.dbg.stat
  pc : t.pc = npc
  memory : SameMemory s t
  rest : { t with
    preds := s.preds, code := s.code, segs := s.segs, lc := s.lc, asid := s.asid, exc := s.exc, bir := s.bir,
    dbg := s.dbg, pc := s.pc } = s

/-- The end of one element of a string instruction: the index register and LC after it, and pc moved on only when LC is
0 (45_string.md R461). Memory, stale bytes and the TLB are not spoken of: `StoresBytes` or `completesElement` does. -/
structure ElementEnds (s t : State) (index : Reg) (v lc npc : Word) : Prop where
  moved : t.reg index = if index = 0 then 0 else v
  others : ∀ r, r ≠ index → t.reg r = s.reg r
  count : t.lc = lc
  pc : t.pc = if lc = 0 then npc else s.pc
  again : t.progress = if lc = 0 then s.progress else .repeating
  rest : { t with
    regs := s.regs, lc := s.lc, pc := s.pc, progress := s.progress, mem := s.mem, stale := s.stale,
    tlb := s.tlb } = s

/-- The element completes and stores nothing. -/
def completesElement (r : Result) (s : State) (index : Reg) (v lc npc : Word) : Prop :=
  ∃ t, r = .next t ∧ ElementEnds s t index v lc npc ∧ SameMemory s t ∧ t.stale = s.stale ∧ t.tlb = s.tlb

/-- `t` is `s` with a prefix of `m` constant bytes pending whose constant, bits 8m+7..8, is `c` sign-extended: what
constants and offsets then are, and the address after the unit (30_encoding.md R139, R140); nothing else changed. -/
structure PrefixTaken (s t : State) (m : Nat) (c : Int) : Prop where
  constant : ∀ (w : Nat) (f : BitVec w), (t.imm f).toInt = c * 256 + (f.toNat % 256 : Nat)
  offset : ∀ (w : Nat) (f : BitVec w) (cr : CodeReg), (t.jumpOffset cr f).toInt = c * 256 + (f.toNat % 256 : Nat)
  after : ∀ len, t.npc len = seq s.pc (m + 1 + len)
  memory : SameMemory s t
  rest : { t with immPrefix := s.immPrefix } = s

/-- A special register number that can be read and written: listed, and with SPR 61 a BIR that names a debug register
(10_state.md R52, R53). -/
def State.sprUsable (s : State) (n : SprNum) : Prop := sprListed n = true ∧ (n = 61 → s.bir.toNat ≤ 5)

/-! ### Data accesses -/

/-- A data access of `n` bytes at offset `off` of segment `sg` passes every check and reaches `p` (20_memory.md R91,
R92). -/
structure State.Reaches (s : State) (k : AccessKind) (slot : Nat) (sg : SegReg) (off : Word) (n : Nat) (p : Phys) :
    Prop where
  aligned : (addSegment (s.segmentBase slot sg) off).toNat % n = 0
  belowLimit : limitFault (s.segmentLimit slot sg) off = false
  reachable : inLastPage (addSegment (s.segmentBase slot sg) off) = false
  translated : s.translate (addSegment (s.segmentBase slot sg) off) = .hit p
  unwatched : debugHits (debugDataMatch s.dbg k (addSegment (s.segmentBase slot sg) off)) = 0
  noBusError : s.dataBusError k p.pa.toNat = false

/-- The first data access of an instruction: what it does, its segment, its offset and its bytes. None for an
instruction that has no access, for a load into r0, which is a prefetch (20_memory.md R96), for a string instruction
with LC 0 (45_string.md R461), and where a field is refused before the access (44_load_store.md R417, R419, R420). -/
def firstAccess (s : State) (i : Instr) : Option (AccessKind × SegReg × Word × Nat) :=
  match i with
  | .lb _ sg rt ra disp | .lbu _ sg rt ra disp | .lvb _ sg rt ra disp =>
    if rt = 0 then none else some (.load, sg, s.reg ra + s.imm disp, 1)
  | .lc _ sg rt ra disp | .lcu _ sg rt ra disp | .lvc _ sg rt ra disp =>
    if rt = 0 then none else some (.load, sg, s.reg ra + s.imm disp, 2)
  | .lh _ sg rt ra disp | .lhu _ sg rt ra disp | .lvh _ sg rt ra disp =>
    if rt = 0 then none else some (.load, sg, s.reg ra + s.imm disp, 4)
  | .lw _ sg rt ra disp | .lvw _ sg rt ra disp => if rt = 0 then none else some (.load, sg, s.reg ra + s.imm disp, 8)
  | .lvwar _ sg _ ra disp => some (.load, sg, s.reg ra + s.imm disp, 8)
  | .swcr _ sg _ ra disp | .sw _ sg _ ra disp | .sti _ sg _ ra disp => some (.store, sg, s.reg ra + s.imm disp, 8)
  | .jci _ sg _ ra disp => some (.load, sg, s.reg ra * 2 + s.imm disp, 2)
  | .jhi _ sg _ ra disp => some (.load, sg, s.reg ra * 4 + s.imm disp, 4)
  | .jwi _ sg _ ra disp => some (.load, sg, s.reg ra * 8 + s.imm disp, 8)
  | .lws _ sg spr ra disp => if sprListed spr then some (.load, sg, s.reg ra + s.imm disp, 8) else none
  | .sb _ sg _ ra disp => some (.store, sg, s.reg ra + s.imm disp, 1)
  | .sc _ sg _ ra disp => some (.store, sg, s.reg ra + s.imm disp, 2)
  | .sh _ sg _ ra disp => some (.store, sg, s.reg ra + s.imm disp, 4)
  | .cas _ _ ra _ _ disp => some (.update, 1, s.reg ra + s.imm disp, 8)
  | .stset _ sg sz _ ra _ => if s.lc = 0 then none else some (.store, sg, s.reg ra, sizeBytes sz)
  | .stmov _ sg sz _ ra _ rc | .stcmp _ sg sz _ ra _ rc | .stfnd _ sg sz _ ra _ rc =>
    if s.lc = 0 then none else some (.load, sg, s.reg ra + s.reg rc, sizeBytes sz)
  | .sws _ sg spr ra disp =>
    if sprListed spr && (spr != 61 || decide (s.bir.toNat ≤ 5)) then some (.store, sg, s.reg ra + s.imm disp, 8)
    else none
  | .lbx _ sg sc rt ra rb | .lbux _ sg sc rt ra rb =>
    if rt = 0 then none else some (.load, sg, s.reg ra + s.reg rb * BitVec.ofNat 64 (2 ^ sc.toNat), 1)
  | .lcx _ sg sc rt ra rb | .lcux _ sg sc rt ra rb =>
    if rt = 0 then none else some (.load, sg, s.reg ra + s.reg rb * BitVec.ofNat 64 (2 ^ sc.toNat), 2)
  | .lhx _ sg sc rt ra rb | .lhux _ sg sc rt ra rb =>
    if rt = 0 then none else some (.load, sg, s.reg ra + s.reg rb * BitVec.ofNat 64 (2 ^ sc.toNat), 4)
  | .lwx _ sg sc rt ra rb =>
    if rt = 0 then none else some (.load, sg, s.reg ra + s.reg rb * BitVec.ofNat 64 (2 ^ sc.toNat), 8)
  | .jcix _ sg _ ra rb => some (.load, sg, s.reg ra + s.reg rb * 2, 2)
  | .jhix _ sg _ ra rb => some (.load, sg, s.reg ra + s.reg rb * 4, 4)
  | .jwix _ sg _ ra rb => some (.load, sg, s.reg ra + s.reg rb * 8, 8)
  | .sbx _ sg sc _ ra rb => some (.store, sg, s.reg ra + s.reg rb * BitVec.ofNat 64 (2 ^ sc.toNat), 1)
  | .scx _ sg sc _ ra rb => some (.store, sg, s.reg ra + s.reg rb * BitVec.ofNat 64 (2 ^ sc.toNat), 2)
  | .shx _ sg sc _ ra rb => some (.store, sg, s.reg ra + s.reg rb * BitVec.ofNat 64 (2 ^ sc.toNat), 4)
  | .swx _ sg sc _ ra rb => some (.store, sg, s.reg ra + s.reg rb * BitVec.ofNat 64 (2 ^ sc.toNat), 8)
  | .stix _ sc _ ra rb => some (.store, 1, s.reg ra + s.reg rb * BitVec.ofNat 64 (2 ^ sc.toNat), 8)
  | .inc _ sg o3 sz ra disp _ =>
    if o3 = 0 ∧ sz.toNat ≤ 3 then some (.update, sg, s.reg ra + s.imm disp, 2 ^ sz.toNat) else none
  | .lwShort _ sg rt ra => if rt = 0 then none else some (.load, sg, s.reg ra, 8)
  | .brk | .nop1 | .rts1 | .imm16 .. | .imm24 .. | .imm32 .. | .imm40 .. | .imm48 .. | .imm56 .. | .imm64 ..
  | .tst .. | .cmp .. | .cmpi .. | .br .. | .add .. | .sub .. | .mul .. | .div .. | .addu .. | .subu .. | .mulu ..
  | .divu .. | .addu2 .. | .addu4 .. | .addu8 .. | .addu16 .. | .min .. | .max .. | .cpuid .. | .redor ..
  | .redand .. | .par .. | .pand .. | .por .. | .peor .. | .pnand .. | .pnor .. | .penor .. | .pandc .. | .porc ..
  | .biti .. | .adduiShort .. | .addi .. | .subi .. | .muli .. | .divi .. | .addui .. | .subui .. | .mului ..
  | .divui .. | .and .. | .or .. | .eor .. | .nand .. | .nor .. | .enor .. | .andc .. | .orc .. | .mlo .. | .andi ..
  | .ori .. | .eori .. | .shl .. | .shr .. | .shlu .. | .shru .. | .rol .. | .ror .. | .shli .. | .shri ..
  | .shlui .. | .shrui .. | .roli .. | .rori .. | .addui2 .. | .addui4 .. | .addui8 .. | .addui16 .. | .ldi ..
  | .mux .. | .fmac .. | .fmov .. | .ftoi .. | .itof .. | .fneg .. | .fabs .. | .fsign .. | .fman .. | .fnabs ..
  | .fstat .. | .frm .. | .fcmp .. | .fadd .. | .fsub .. | .fmul .. | .fdiv .. | .fcmps .. | .fadds .. | .fsubs ..
  | .fmuls .. | .fdivs .. | .fmovs .. | .ftois .. | .itofs .. | .fnegs .. | .fabss .. | .fsigns .. | .fmans ..
  | .fnabss .. | .ftx .. | .fcx .. | .fex .. | .fdx .. | .ftst .. | .fstst .. | .fscmp .. | .lfs .. | .lfd ..
  | .lcl .. | .sfs .. | .sfd .. | .ldis .. | .cacheInvI .. | .cacheInvILine .. | .cacheInvD .. | .cacheInvDLine ..
  | .jsr3 .. | .jsr5 .. | .jsr6 .. | .rts3 .. | .loop .. | .sys .. | .int .. | .mov .. | .neg .. | .not .. | .abs ..
  | .sgn .. | .cntlz .. | .cntlo .. | .cntpop .. | .sxb .. | .sxc .. | .sxh .. | .com .. | .zxb .. | .zxc ..
  | .zxh .. | .mfspr .. | .mtspr .. | .bfins .. | .bfset .. | .bfclr .. | .bfchg .. | .bfextu .. | .bfext ..
  | .bfinsi .. | .movs .. | .push .. | .pea .. | .pop .. | .link .. | .unlink .. | .tlbnop .. | .tlbpb ..
  | .tlbrd .. | .tlbwr .. | .tlbwi .. | .tlben .. | .tlbdis .. | .tlbrdreg .. | .tlbwrreg .. | .tlbinv .. | .nop2 ..
  | .rts4 .. | .rte .. | .rti .. | .bcdadd .. | .bcdsub .. | .bcdmul .. | .stp .. | .sync .. | .memsb .. | .memdb ..
  | .cli .. | .sei .. | .rtd .. | .immFF .. => none

/-! ### Stepping -/

/-- Nothing comes before the unit at pc: no reset, a running clock, no interrupt taken (60_exceptions.md R605). -/
structure State.Quiet (s : State) : Prop where
  noReset : s.pins.rst = false
  running : s.clk.stopped = false
  noNmi : takesNmi s = false
  noIrq : takesIrq s = false

/-- The bytes `bs` are what the fetch of the unit at pc finds: each address passes the checks of 20_memory.md R97, no
device answers there, the page is not cached (R105) or no stale byte is left there (R117), and the byte stands in
memory. -/
def State.CodeIs (s : State) (bs : List Byte) : Prop :=
  ∀ k, (h : k < bs.length) → ∃ p, fetchAddress s k = .ok p ∧ s.isDevice p.pa.toNat = false ∧
    (s.uncached p = true ∨ ∀ e ∈ s.stale, e.addr ≠ p.pa.toNat) ∧ s.mem.read p.pa.toNat = bs[k]

/-- No debug register matches the first byte of the unit at pc (60_exceptions.md R595). -/
def State.Unwatched (s : State) : Prop := debugHits (debugFetchMatch s.dbg (s.fetchVa 8 s.pc)) = 0

/-- The invariant of the machine: memory in canonical form, the hard-wired registers' slots 0, no prefix pending and
no unit in progress between steps, and a clock that is stopped exactly when its pattern is 0. -/
structure State.Inv (s : State) : Prop where
  /-- Memory keeps its canonical form. -/
  mem : s.mem.wf = true
  /-- r0's slot is 0 (10_state.md R21). -/
  r0 : s.regs[0] = 0
  /-- C0's slot is 0 (10_state.md R27). -/
  c0 : s.code[0] = 0
  /-- C15's slot is 0 (10_state.md R29). -/
  c15 : s.code[15] = 0
  /-- No immediate prefix is pending between steps (10_state.md R61). -/
  noPrefix : s.immPrefix = none
  /-- No unit is in progress between steps. -/
  progress : s.progress = .retired
  /-- The clock is stopped exactly when its pattern is 0 (46_system.md R512). -/
  clock : s.clk.stopped = (s.clk.rate == 0)

end Sys2Proof.Machine
end

