-- ==== Sys2Proof/Certificates/Slice0/Obligations.lean ====
section
/-! DEFINITION. The statements about the machine. Each docstring names the rules it formalises, and the decision of the
spec or the log entry that it rests on where the rule is not the source's own. -/

open Sys2Proof Sys2Proof.Machine

/-- No bit of an encoding is dropped and no later byte is looked at (30_encoding.md sections 3 and 4). The field
positions of the map-only floating point names are the model's own (log 27). -/
def Obligations.DecodeEncodeAgree : Prop :=
  ∀ (i : Instr) (rest : List Byte), decode (encode i ++ rest) = .ok i

/-- The lengths of 30_encoding.md R131: of what decodes, of what the fetch takes, of the prefixes, and of no other
opcode. -/
def Obligations.InstructionLengths : Prop :=
  (∀ (b op : Byte) (rest : List Byte) (i : Instr), decode (b :: op :: rest) = .ok i → mapOnly i = false →
    tableLength b.toNat op.toNat = some (encode i).length) ∧
  (∀ (b op : Byte) (q : Pred) (n : Nat), firstByte b = .pred q → tableLength b.toNat op.toNat = some n →
    lengthOfOpcode op.toNat = n) ∧
  (∀ (b op : Byte) (m : Nat), firstByte b = .imm m → tableLength b.toNat op.toNat = some (m + 1)) ∧
  (∀ (b op : Byte) (rest : List Byte) (q : Pred), firstByte b = .pred q → tableLength b.toNat op.toNat = none →
    op.toNat ∉ mapOnlyOpcodes → decode (b :: op :: rest) = .error .undefinedOpcode)

/-- A sanity check on the bytes that the rules print (R181, R184, R200, R222, R224, R252, R253, R262, R281, R387,
R395, R481, R493, R531). -/
def Obligations.SpecWordsDecode : Prop :=
  decode [0x01, 0x11, 0xC2, 0x00] = .ok (.cmp .always 1 2 3) ∧
  decode [0x01, 0x02, 0x04] = .ok (.tst .always 2 4) ∧
  decode [0x01, 0x40, 0x81, 0x30, 0x00] = .ok (.add .always 3 1 2) ∧
  decode [0x01, 0x48, 0x44, 0xF1, 0xFF] = .ok (.addi .always 5 4 0xFFF) ∧
  decode [0x01, 0x47, 0x1B, 0xFE] = .ok (.adduiShort .always 27 0x3F8) ∧
  decode [0x01, 0xA7, 0x81, 0x00] = .ok (.mov .always 2 1) ∧
  decode [0x01, 0x86, 0xC2, 0x80, 0x20] = .ok (.lw .always 1 3 2 8) ∧
  decode [0x01, 0xD6, 0xC2, 0x20] = .ok (.lwShort .always 1 3 2) ∧
  decode [0x01, 0x30, 0x10] = .ok (.br .always 16) ∧
  decode [0x01, 0xA2, 0x01, 0x56, 0x34, 0x12] = .ok (.jsr6 .always 1 0 0x123456) ∧
  decode [0x01, 0x8D, 0x46, 0x04, 0xE8] = .ok (.jci .always 7 1 6 0x80) ∧
  decode [0x01, 0xA5, 0xCD, 0x04] = .ok (.sys .always 12 13 4) ∧
  decode [0x01, 0x9D, 0x11, 0x40] = .ok (.ldis .always 17 0x100) ∧
  decode [0x01, 0xF0, 0x48, 0x01] = .ok (.tlbwrreg .always 4 1)

/-- What step adds around exec: the pins sampled (beginStep), the prefix, and the end of the step (30_encoding.md
R134, R139; logs 11, 22, 26, 35). -/
def Obligations.StepRunsDecodedInstruction : Prop :=
  ∀ (s : State) (u : UnitBytes) (i : Instr), (beginStep s).Quiet → (beginStep s).Unwatched →
    fetchUnitBytes (beginStep s) = .ok u → decode u.body = .ok i →
    (u.prefixBytes = none → step s = andThen (exec i (beginStep s)) (afterUnit (beginStep s) i)) ∧
    (∀ bs p, u.prefixBytes = some bs → decode bs = .ok p → takesImmediate i = true →
      step s = andThen (exec p (beginStep s)) fun t => andThen (exec i t) (afterUnit (beginStep s) i)) ∧
    (∀ t, singleSteps (beginStep s) i t = false →
      afterUnit (beginStep s) i t =
        .next { t with immPrefix := none, progress := .retired, clock := t.clock + 1 })

/-- From bytes in memory to the meaning: the length that the fetch takes, the decoder and the encoder agree for every
operand (20_memory.md R97, R105, R117, 30_encoding.md R131, R134; log 19). -/
def Obligations.EncodedInstructionRuns : Prop :=
  ∀ (s : State) (i : Instr), (beginStep s).Quiet → (beginStep s).Unwatched → mapOnly i = false →
    isPrefix (encode i) = false → (beginStep s).CodeIs (encode i) →
    step s = andThen (exec i (beginStep s)) (afterUnit (beginStep s) i)

/-- A prefix and its instruction are one unit and one step (30_encoding.md R139; the spec's decision D6). -/
def Obligations.PrefixedInstructionRuns : Prop :=
  ∀ (s : State) (p i : Instr), (beginStep s).Quiet → (beginStep s).Unwatched →
    isPrefix (encode p) = true → takesImmediate i = true → (beginStep s).CodeIs (encode p ++ encode i) →
    step s = andThen (exec p (beginStep s)) fun t => andThen (exec i t) (afterUnit (beginStep s) i)

/-- Units that are no instruction (30_encoding.md R136, R137, R141: the spec's decisions D5, D28, D29;
TRAP_ILLEGALOPS at its default, log 38), Unimplemented before the refusal (60_exceptions.md R605; log 28). -/
def Obligations.RejectedUnits : Prop :=
  (∀ (s : State) (u : UnitBytes), (beginStep s).Quiet → (beginStep s).Unwatched →
    fetchUnitBytes (beginStep s) = .ok u →
    (decode u.body = .error .undefinedOpcode ∨ decode u.body = .error .undefinedFunction →
      (beginStep s).vectorInArea 250 →
      ∃ t, TakesException (beginStep s) t 250 (beginStep s).pc ∧ step s = .next (endStep t)) ∧
    (decode u.body = .error .reservedPredicate → step s = .refused .reservedPredicate) ∧
    (∀ bs i, u.prefixBytes = some bs → decode u.body = .ok i → takesImmediate i = false →
      step s = .refused .immediateNotTaken)) ∧
  (∀ (b : Byte) (rest : List Byte),
    b.toNat % 16 = 12 ∨ b.toNat % 16 = 14 ∨ b.toNat % 16 = 15 ∨ (b.toNat % 16 = 0 ∧ 0xA0 ≤ b.toNat) ∨
      (b.toNat % 16 = 1 ∧ 0x21 ≤ b.toNat) →
    (decode (0x01 :: rest) = .error .undefinedOpcode ∨ decode (0x01 :: rest) = .error .undefinedFunction →
      decode (b :: rest) = decode (0x01 :: rest)) ∧
    (decode (0x01 :: rest) ≠ .error .undefinedOpcode → decode (0x01 :: rest) ≠ .error .undefinedFunction →
      decode (b :: rest) = .error .reservedPredicate))

/-- Faults of fetching, first hit wins (20_memory.md R97, 60_exceptions.md R605: the spec's decision D20; log 29). -/
def Obligations.FetchFaultsTaken : Prop :=
  ∀ (s : State), (beginStep s).Quiet →
    let s0 := beginStep s
    let va := s0.fetchVa 8 s0.pc
    let hits := debugHits (debugFetchMatch s0.dbg va)
    (nonSegmented s0.pc = false → limitFault (s0.segmentLimit 8 7) s0.pc = true → s0.vectorInArea 244 →
      ∃ t, TakesException s0 t 244 s0.pc ∧ step s = .next (endStep t)) ∧
    ((nonSegmented s0.pc = true ∨ limitFault (s0.segmentLimit 8 7) s0.pc = false) → inLastPage va = false →
      (s0.translate va = .miss → s0.vectorInArea 249 →
        ∃ t, TakesException (s0.recordFetchMiss va) t 249 s0.pc ∧ step s = .next (endStep t)) ∧
      (hits ≠ 0 → s0.vectorInArea 243 →
        ((∃ u, fetchUnitBytes s0 = .ok u) ∨ ∃ p, s0.translate va = .hit p ∧ s0.fetchBusError p.pa.toNat = true) →
        ∃ t, TakesException (s0.setDebugStatus hits) t 243 s0.pc ∧ step s = .next (endStep t)) ∧
      (hits = 0 → s0.vectorInArea 252 → ∀ p, s0.translate va = .hit p → s0.fetchBusError p.pa.toNat = true →
        ∃ t, TakesException s0 t 252 s0.pc ∧ step s = .next (endStep t)))

/-- Interrupt acceptance and entry (60_exceptions.md R572, R573, R577: the spec's decisions D19, D21; NMI_NESTS at
its default, log 38; the model accepts at the first boundary, log 43). -/
def Obligations.InterruptsTaken : Prop :=
  ∀ (s : State),
    let s0 := beginStep s
    s0.pins.rst = false → s0.clk.stopped = false →
    (s0.nmiEdges ≠ 0 → s0.hwi = false → s0.vectorInArea 254 →
      ∃ t, EntersInterrupt
          { s0 with nmiEdges := s0.nmiEdges - 1, clk := { rate := 0xAAAA, stopped := false } } t 254 s0.pc ∧
        (Config.excModel = .vector → t.exc = 254) ∧ step s = .next (endStep t)) ∧
    (s0.nmiEdges = 0 → s0.pins.irq = true → s0.interruptMask = false → s0.hwi = false →
      s0.vectorInArea s0.pins.vec →
      ∃ t, EntersInterrupt s0 t s0.pins.vec s0.pc ∧
        (Config.excModel = .vector → t.exc = zext s0.pins.vec) ∧ step s = .next (endStep t)) ∧
    (s0.nmiEdges = 0 → s0.interruptMask = true ∨ s0.pins.irq = false → s0.Quiet) ∧
    (s0.hwi = true → s0.Quiet)

/-- Reset (70_reset_and_hazards.md R620 to R624: the spec's decision D36; log 23) and the stopped clock
(60_exceptions.md R610, 46_system.md R512; log 25). Each edge is remembered until it is taken (R573; log 22); that a
reset keeps them is the model's choice (log 23). -/
def Obligations.ResetInputAndStoppedClock : Prop :=
  ∀ (s : State),
    let s0 := beginStep s
    (s0.pins.rst = true → ∃ t, step s = .next t ∧ t.pc = 0xFFFFFFFFFFFFEFF0 ∧ t.kernel = true ∧ t.exl = 0 ∧
      t.hwi = true ∧ t.interruptMask = true ∧ t.tlb.enabled = false ∧ t.dbg.ctrl &&& 0x8F = 0 ∧
      t.reservation = none ∧ t.clk = { rate := 0xAAAA, stopped := false } ∧ t.stale = [] ∧ t.nmiEdges = s0.nmiEdges ∧
      SameMemory s t) ∧
    (s0.pins.rst = false → s0.clk.stopped = true → step s = .next (endStep s0)) ∧
    (s.pins.nmi = false → s0.pins.nmi = true →
      s0.clk = { rate := 0xAAAA, stopped := false } ∧ s0.nmiEdges = s.nmiEdges + 1) ∧
    (s.pins.nmi = true ∨ s0.pins.nmi = false → s0.nmiEdges = s.nmiEdges)

/-- Debug matching and single stepping (60_exceptions.md R595, R605 item 6, 10_state.md R34, R55, R56: the spec's
decision D45; SSTEP_IN_KERNEL at its default, log 38; log 35). -/
def Obligations.DebugTraps : Prop :=
  (∀ (s t : State) (u : UnitBytes) (i : Instr), (beginStep s).Quiet → (beginStep s).Unwatched →
    fetchUnitBytes (beginStep s) = .ok u → decode u.body = .ok i →
    runDecoded exec (beginStep s) u.prefixBytes i = .next t →
    (t.dbg.ctrl.getLsbD 7 = true → t.progress = .retired → (beginStep s).kernel = false →
      (∀ q, predicateOf i = some q → (beginStep s).holds q = true) → (endStep t).vectorInArea 243 →
      ∃ w, TakesException (endStep t) w 243 t.pc ∧ step s = .next (endStep w)) ∧
    (t.dbg.ctrl.getLsbD 7 = false ∨ t.progress ≠ .retired ∨ (beginStep s).kernel = true ∨
      (∃ q, predicateOf i = some q ∧ (beginStep s).holds q = false) → step s = .next (endStep t))) ∧
  (∀ (d : DebugRegs) (k : AccessKind) (va : Word) (n : Fin 4), debugDataMatch d k va n = true ↔
    d.ctrl.getLsbD n = true ∧
    ((d.ctrl.extractLsb' (16 + 4 * n) 2 = 1 ∧ k ≠ .load) ∨ d.ctrl.extractLsb' (16 + 4 * n) 2 = 3) ∧
    ∀ j, (d.ctrl.extractLsb' (18 + 4 * n) 2).toNat ≤ j → (d.addr[n]).getLsbD j = va.getLsbD j) ∧
  (∀ (d : DebugRegs) (va : Word) (n : Fin 4), debugFetchMatch d va n = true ↔
    d.ctrl.getLsbD n = true ∧ d.ctrl.extractLsb' (16 + 4 * n) 2 = 0 ∧ d.addr[n] = va) ∧
  (∀ (s : State) (hit : Fin 4 → Bool) (n : Fin 4),
    (s.setDebugStatus (debugHits hit)).dbg.stat.getLsbD n = (s.dbg.stat.getLsbD n || hit n))

/-- The start of the invariant (State.Inv; the canonical form and the progress note are the model's own, logs 10,
35). -/
def Obligations.ResetInvariant : Prop :=
  State.reset.Inv

/-- The hard-wired registers (10_state.md R21, R27, R29), no pending prefix between steps (R61), the stopped flag
(46_system.md R512), and the canonical form of memory (the model's own, log 10). -/
def Obligations.StepKeepsInvariant : Prop :=
  ∀ (s t : State), s.Inv → step s = .next t → t.Inv

/-- The reset values that 10_state.md R72 and 70_reset_and_hazards.md R620 to R624 give (R621 and R622 rest on the
spec's decision D36). That memory lists nothing, so that every byte reads 0, is the model's choice (log 10); that
nothing is stale is R72's empty caches as log 19 reads them; the values that logs 1 to 9 chose are not spoken of. -/
def Obligations.ResetState : Prop :=
  State.reset.pc = 0xFFFFFFFFFFFFEFF0 ∧ State.reset.exl = 0 ∧ State.reset.hwi = true ∧
  State.reset.kernel = true ∧ State.reset.interruptMask = true ∧ State.reset.tlb.enabled = false ∧
  State.reset.dbg.ctrl &&& 0x8F = 0 ∧ State.reset.reservation = none ∧
  State.reset.clk = { rate := 0xAAAA, stopped := false } ∧ State.reset.mem = [] ∧ State.reset.stale = []

/-- The only way out of kernel mode (60_exceptions.md R583) and the writers of SR (10_state.md R39; INT by the spec's
decision D19). -/
def Obligations.ModeAndStatusWriters : Prop :=
  (∀ (i : Instr) (s t : State), exec i s = .next t → t.progress ≠ .raised → changesMode i = false →
    t.exl = s.exl ∧ t.hwi = s.hwi) ∧
  (∀ (i : Instr) (s t : State), exec i s = .next t → s.kernel = true → t.kernel = false →
    ∃ q, i = .rte q ∨ i = .rtd q ∨ i = .rti q) ∧
  (∀ (i : Instr) (s t : State), exec i s = .next t → t.sr ≠ s.sr →
    ∃ q, i = .cli q ∨ i = .sei q ∨ i = .rti q ∨ ∃ cr crt off, i = .int q cr crt off) ∧
  (∀ (s t : State), step s = .next t → s.kernel = true → t.kernel = false →
    ∃ u i q, fetchUnitBytes (beginStep s) = .ok u ∧ decode u.body = .ok i ∧
      (i = .rte q ∨ i = .rtd q ∨ i = .rti q))

/-- The list of accesses in 20_memory.md R81, read as the list of writers. -/
def Obligations.MemoryWriters : Prop :=
  ∀ (i : Instr) (s t : State), exec i s = .next t → storesToMemory i = false → SameMemory s t

/-- The only writers of predicate registers (41_compare_predicate.md R220). -/
def Obligations.PredicateWriters : Prop :=
  ∀ (i : Instr) (s t : State), exec i s = .next t → writesPredicates i = false → ∀ p, t.pred p = s.pred p

/-- A false predicate (10_state.md R34, with the conditions of R33); the exceptions are those of 46_system.md R496,
R497 and 47_map_only.md R540. -/
def Obligations.FalsePredicateSkips : Prop :=
  (∀ (s : State) (p : PredReg),
    (s.holds .never = false ∧ s.holds .always = true ∧
    s.holds (.test p .eq) = (s.pred p).getLsbD 0 ∧ s.holds (.test p .ne) = !(s.pred p).getLsbD 0 ∧
    s.holds (.test p .le) = ((s.pred p).getLsbD 1 || (s.pred p).getLsbD 0) ∧
    s.holds (.test p .gt) = !((s.pred p).getLsbD 1 || (s.pred p).getLsbD 0) ∧
    s.holds (.test p .ge) = !(s.pred p).getLsbD 1 ∧ s.holds (.test p .lt) = (s.pred p).getLsbD 1 ∧
    s.holds (.test p .leu) = ((s.pred p).getLsbD 2 || (s.pred p).getLsbD 0) ∧
    s.holds (.test p .gtu) = !((s.pred p).getLsbD 2 || (s.pred p).getLsbD 0) ∧
    s.holds (.test p .geu) = !(s.pred p).getLsbD 2 ∧ s.holds (.test p .ltu) = (s.pred p).getLsbD 2 ∧
    s.holds (.test p .sig) = s.pins.psig)) ∧
  (∀ (i : Instr) (q : Pred) (s : State), predicateOf i = some q → s.holds q = false →
    i ≠ .sync q → i ≠ .memsb q →
    (mapOnly i = true → ∃ rt ra, i = .sgn q rt ra ∨ i = .redor q rt ra ∨ i = .redand q rt ra ∨ i = .par q rt ra) →
    exec i s = .next { s with pc := s.npc (encode i).length })

/-- r28 to r31 (10_state.md R23: the spec's decision D37; for the TLB commands the privilege check comes first, log
33). -/
def Obligations.KernelOnlyRegistersRefused : Prop :=
  (∀ (i : Instr) (q : Pred) (s : State) (r : Reg), predicateOf i = some q → s.holds q = true → s.kernel = false →
    r ∈ registersNamed i → 28 ≤ r.toNat → r.toNat ≤ 31 → exec i s = .refused .kernelOnlyRegister) ∧
  (∀ (s : State) (rs : List Reg), s.kernel = true → s.allows rs = true)

/-- A load returns the latest store (20_memory.md R107), little-endian (R82: the spec's decision D1; log 47). -/
def Obligations.StoreThenLoad : Prop :=
  ∀ (s : State) (p : Phys) (n slot : Nat) (v : Word), n = 1 ∨ n = 2 ∨ n = 4 ∨ n = 8 →
    (∀ k, k < n → s.isDevice (p.pa.toNat + k) = false) →
    (s.mem.wf = true →
      (s.storeValue p n v).loadValue slot p n = BitVec.ofNat 64 (v.toNat % 2 ^ (8 * n)) ∧
      ∀ a, a < p.pa.toNat ∨ p.pa.toNat + n ≤ a → (s.storeValue p n v).mem.read a = s.mem.read a) ∧
    (∀ k j, k < n → j < 8 →
      (s.loadValue slot p n).getLsbD (8 * k + j) = (s.mem.read (p.pa.toNat + k)).getLsbD j) ∧
    (s.loadValue slot p n).toNat < 2 ^ (8 * n)

/-- The order of checks (20_memory.md R91: the spec's decision D20; the last page R87, log 30). Each instruction's
first access is firstAccess: its kind, segment, offset and width (CAS and INC as one access, log 31). -/
def Obligations.DataAccessChecksInOrder : Prop :=
  (∀ (s : State) (k : AccessKind) (slot : Nat) (sg : SegReg) (off : Word) (n : Nat) (f : Phys → Result),
    let va := addSegment (s.segmentBase slot sg) off
    let r := (dataCheck s k slot sg off n).run f
    let hits := debugHits (debugDataMatch s.dbg k va)
    (va.toNat % n ≠ 0 → r = .refused .misaligned) ∧
    (va.toNat % n = 0 → limitFault (s.segmentLimit slot sg) off = true → s.vectorInArea 244 → raises r s 244 s.pc) ∧
    (va.toNat % n = 0 → limitFault (s.segmentLimit slot sg) off = false →
      (inLastPage va = true → r = .fault .unreachablePage) ∧
      (inLastPage va = false →
        (s.translate va = .miss → s.vectorInArea 248 → raises r (s.recordDataMiss va) 248 s.pc) ∧
        (∀ p, s.translate va = .hit p →
          (hits ≠ 0 → s.vectorInArea 243 → raises r (s.setDebugStatus hits) 243 s.pc) ∧
          (hits = 0 → s.dataBusError k p.pa.toNat = true → s.vectorInArea 251 → raises r s 251 s.pc) ∧
          (hits = 0 → s.dataBusError k p.pa.toNat = false → r = f p))))) ∧
  (∀ (i : Instr) (q : Pred) (s : State) (k : AccessKind) (sg : SegReg) (off : Word) (n : Nat),
    predicateOf i = some q → s.Executes q (registersNamed i) → firstAccess s i = some (k, sg, off, n) →
    (∀ p, ¬s.Reaches k 0 sg off n p) → exec i s = (dataCheck s k 0 sg off n).run fun _ => .next s) ∧
  (∀ (s : State) (q : Pred) (sg : SegReg) (sz : Size) (dir : Direction) (ra rb rc : Reg) (p : Phys), s.lc ≠ 0 →
    s.Executes q [ra, rb, rc] → s.Reaches .load 0 sg (s.reg ra + s.reg rc) (sizeBytes sz) p →
    ((∀ p', ¬s.Reaches .store 1 sg (s.reg rb + s.reg rc) (sizeBytes sz) p') →
      exec (.stmov q sg sz dir ra rb rc) s =
        (dataCheck s .store 1 sg (s.reg rb + s.reg rc) (sizeBytes sz)).run fun _ => .next s) ∧
    ((∀ p', ¬s.Reaches .load 1 sg (s.reg rb + s.reg rc) (sizeBytes sz) p') →
      exec (.stcmp q sg sz dir ra rb rc) s =
        (dataCheck s .load 1 sg (s.reg rb + s.reg rc) (sizeBytes sz)).run fun _ => .next s))

/-- Address formation (20_memory.md R84 to R86, R120) and staleness (70_reset_and_hazards.md R632: the spec's
decisions D23, D27; log 18). -/
def Obligations.SegmentedAddress : Prop :=
  (∀ base off : Word, (addSegment base off).toNat = (off.toNat + base.toNat / 4096 * 4096) % 2 ^ 64) ∧
  (∀ limit off : Word, limitFault limit off = true ↔ limit.toNat / 4096 ≤ off.toNat / 4096) ∧
  (∀ (s : State) (slot : Nat) (a : Word), s.fetchVa slot a =
    if 0xF000000000000000 ≤ a.toNat then a else addSegment (s.segmentBase slot 7) a) ∧
  (∀ (s : State) (slot : Nat) (sg : SegReg),
    (s.segmentBase slot sg = s.segs.base[sg.toNat] ∨ s.segmentBase slot sg = s.segs.baseUsed[sg.toNat]) ∧
    (s.segmentLimit slot sg = s.segs.limit[sg.toNat] ∨ s.segmentLimit slot sg = s.segs.limitUsed[sg.toNat])) ∧
  addSegment 0x123456 0x3000 = 0x126000 ∧ limitFault 0x10000 0x3000 = false

/-- The lookup (20_memory.md R89, R101, R102, R103: the spec's decision D24). -/
def Obligations.TlbLookup : Prop :=
  ∀ (s : State) (va : Word),
    let n := s.tlb.pageSize.toNat
    let entry := fun w : Nat => s.tlb.entries[(8 * w + va.toNat / 2 ^ (12 + 2 * n) % 8) % 64]'(by omega)
    let matching := fun w : Nat => (entry w).v = true ∧
      (entry w).virtPage.toNat / 2 ^ (2 * n) = va.toNat / 2 ^ (12 + 2 * n) ∧
      ((entry w).g = true ∨ (entry w).asid = s.asid)
    (s.tlb.enabled = false → s.translate va = .hit { pa := va, entry := none }) ∧
    (s.tlb.enabled = true → 5 ≤ n → s.translate va = .undefinedSize) ∧
    (s.tlb.enabled = true → n < 5 →
      ((∀ w, w < 8 → ¬matching w) → s.translate va = .miss) ∧
      (∀ w, w < 8 → matching w → (∀ w', w' < 8 → w' ≠ w → ¬matching w') →
        s.translate va = .hit
          { pa := BitVec.ofNat 64
              ((entry w).physPage.toNat / 2 ^ (2 * n) * 2 ^ (12 + 2 * n) + va.toNat % 2 ^ (12 + 2 * n))
            entry := some (BitVec.ofNat 6 (8 * w + va.toNat / 2 ^ (12 + 2 * n) % 8)) }) ∧
      (∀ w w', w < 8 → w' < 8 → w ≠ w' → matching w → matching w' → s.translate va = .multiple))

/-- TLB misses (60_exceptions.md R592, R593). -/
def Obligations.TlbMissesTaken : Prop :=
  (∀ (s : State) (k : AccessKind) (slot : Nat) (sg : SegReg) (off : Word) (n : Nat) (f : Phys → Result),
    let va := addSegment (s.segmentBase slot sg) off
    s.tlb.enabled = true → s.tlb.pageSize.toNat < 5 →
    (∀ i, entryMatches (s.tlbEntry i) s.tlb.pageSize s.asid va = false) →
    va.toNat % n = 0 → limitFault (s.segmentLimit slot sg) off = false → inLastPage va = false →
    s.vectorInArea 248 →
    raises ((dataCheck s k slot sg off n).run f)
      { s with tlb := { s.tlb with dma := if s.tlb.dma = 0 then va else s.tlb.dma } } 248 s.pc) ∧
  (∀ (s : State) (k : Nat) (f : Byte → Result),
    let va := s.fetchVa (8 + k) (seq s.pc k)
    s.tlb.enabled = true → s.tlb.pageSize.toNat < 5 →
    (∀ i, entryMatches (s.tlbEntry i) s.tlb.pageSize s.asid va = false) →
    (nonSegmented (seq s.pc k) = true ∨ limitFault (s.segmentLimit (8 + k) 7) (seq s.pc k) = false) →
    inLastPage va = false → s.vectorInArea 249 →
    raises ((fetchByte s k).run f)
      { s with tlb := { s.tlb with ima := if s.tlb.ima = 0 then va else s.tlb.ima } } 249 s.pc)

/-- The one entry sequence (60_exceptions.md R567 to R569, R589: the spec's decisions D22, D53; EXC_MODEL, log 38;
staleness of C12, log 17). -/
def Obligations.ExceptionEntry : Prop :=
  (∀ (v : BitVec 8) (s : State),
    (s.vectorInArea v → raises (raiseException v s) s v s.pc) ∧
    (¬s.vectorInArea v → raiseException v s = .refused .vectorOutsideArea)) ∧
  (∀ s : State, s.vectorBase = s.codeReg 0 12 ∨ s.vectorBase = s.c12Used)

/-- CLI and SEI (46_system.md R484, R485) and the privilege violation (60_exceptions.md R591: the spec's decision
D29; log 33). -/
def Obligations.InterruptMaskAndPrivilege : Prop :=
  ∀ (s : State) (q : Pred), s.holds q = true →
    (s.kernel = true →
      (∃ t, exec (.cli q) s = .next t ∧ t.sr.getLsbD 15 = false ∧ (∀ j, j ≠ 15 → t.sr.getLsbD j = s.sr.getLsbD j) ∧
        t.pc = s.npc 2 ∧ SameMemory s t ∧ { t with sr := s.sr, pc := s.pc } = s) ∧
      (∃ t, exec (.sei q) s = .next t ∧ t.sr.getLsbD 15 = true ∧ (∀ j, j ≠ 15 → t.sr.getLsbD j = s.sr.getLsbD j) ∧
        t.pc = s.npc 2 ∧ SameMemory s t ∧ { t with sr := s.sr, pc := s.pc } = s)) ∧
    (s.kernel = false → s.vectorInArea 245 →
      (∀ i ∈ [Instr.cli q, .sei q, .rte q, .rtd q, .rti q, .tlbnop q, .tlbpb q, .tlbrd q, .tlbwr q, .tlbwi q,
        .tlben q, .tlbdis q, .tlbinv q], raises (exec i s) s 245 s.pc) ∧
      (∀ (tn : BitVec 4) (r : Reg), raises (exec (.tlbrdreg q tn r) s) s 245 s.pc ∧
        raises (exec (.tlbwrreg q tn r) s) s 245 s.pc))

/-- Integer divide by zero (60_exceptions.md R587; 42_arithmetic.md R265 and 60_exceptions.md R586 for the overflow
of the quotient). That DIVU and DIVUI complete at divisor 0 is the spec's decision D35 (42_arithmetic.md R267, R276);
their quotient there is a free value (log 12). -/
def Obligations.DivideByZeroTraps : Prop :=
  ∀ (s : State) (q : Pred) (rt ra rb : Reg) (imm : BitVec 12),
    (s.Executes q [rt, ra, rb] →
      (s.reg rb = 0 → s.vectorInArea 241 → raises (exec (.div q rt ra rb) s) s 241 s.pc) ∧
      (s.reg rb ≠ 0 → (∃ v, completesReg (exec (.div q rt ra rb) s) s 5 rt v) ∨
        exec (.div q rt ra rb) s = raiseException 240 s) ∧
      ∃ v, completesReg (exec (.divu q rt ra rb) s) s 5 rt v) ∧
    (s.Executes q [rt, ra] →
      (s.imm imm = 0 → s.vectorInArea 241 → raises (exec (.divi q rt ra imm) s) s 241 s.pc) ∧
      (s.imm imm ≠ 0 → (∃ v, completesReg (exec (.divi q rt ra imm) s) s 5 rt v) ∨
        exec (.divi q rt ra imm) s = raiseException 240 s) ∧
      ∃ v, completesReg (exec (.divui q rt ra imm) s) s 5 rt v)

/-- R252, R253, R256, R257, R260, R261 with overflow as R251 defines it (the spec's decision D34). What taking an
exception does is ExceptionEntry. -/
def Obligations.CheckedArithmetic : Prop :=
  ∀ (s : State) (q : Pred) (rt ra rb : Reg) (imm : BitVec 12),
    (s.Executes q [rt, ra, rb] →
      completesChecked (exec (.add q rt ra rb) s) s 5 rt ((s.reg ra).toInt + (s.reg rb).toInt) ∧
      completesChecked (exec (.sub q rt ra rb) s) s 5 rt ((s.reg ra).toInt - (s.reg rb).toInt) ∧
      completesChecked (exec (.mul q rt ra rb) s) s 5 rt ((s.reg ra).toInt * (s.reg rb).toInt)) ∧
    (s.Executes q [rt, ra] →
      completesChecked (exec (.addi q rt ra imm) s) s 5 rt ((s.reg ra).toInt + (s.imm imm).toInt) ∧
      completesChecked (exec (.subi q rt ra imm) s) s 5 rt ((s.reg ra).toInt - (s.imm imm).toInt) ∧
      completesChecked (exec (.muli q rt ra imm) s) s 5 rt ((s.reg ra).toInt * (s.imm imm).toInt))

/-- R265, R266, R267, R276 (the spec's decision D35; DIV_OVERFLOW_TRAPS at its default, log 38; the quotient by 0 is
a free value, log 12). -/
def Obligations.DivisionResults : Prop :=
  ∀ (s : State) (q : Pred) (rt ra rb : Reg) (imm : BitVec 12),
    (s.Executes q [rt, ra, rb] → s.reg rb ≠ 0 →
      (if (s.reg ra).toInt = -(2 ^ 63) ∧ (s.reg rb).toInt = -1 then
        exec (.div q rt ra rb) s = raiseException 240 s
      else completesReg (exec (.div q rt ra rb) s) s 5 rt
        (BitVec.ofInt 64 ((s.reg ra).toInt.tdiv (s.reg rb).toInt))) ∧
      completesReg (exec (.divu q rt ra rb) s) s 5 rt (BitVec.ofNat 64 ((s.reg ra).toNat / (s.reg rb).toNat))) ∧
    (s.Executes q [rt, ra] → s.imm imm ≠ 0 →
      (if (s.reg ra).toInt = -(2 ^ 63) ∧ (s.imm imm).toInt = -1 then
        exec (.divi q rt ra imm) s = raiseException 240 s
      else completesReg (exec (.divi q rt ra imm) s) s 5 rt
        (BitVec.ofInt 64 ((s.reg ra).toInt.tdiv (s.imm imm).toInt))) ∧
      completesReg (exec (.divui q rt ra imm) s) s 5 rt (BitVec.ofNat 64 ((s.reg ra).toNat / (s.imm imm).toNat))) ∧
    (s.Executes q [rt, ra, rb] → s.reg rb = 0 → ∃ v, completesReg (exec (.divu q rt ra rb) s) s 5 rt v) ∧
    (s.Executes q [rt, ra] → s.imm imm = 0 → ∃ v, completesReg (exec (.divui q rt ra imm) s) s 5 rt v)

/-- R254, R258, R268 to R271 and R279 to R281: results, frame and encodings. -/
def Obligations.UnsignedArithmetic : Prop :=
  (∀ (s : State) (q : Pred) (rt ra rb : Reg), s.Executes q [rt, ra, rb] →
    completesReg (exec (.addu q rt ra rb) s) s 5 rt (BitVec.ofNat 64 ((s.reg ra).toNat + (s.reg rb).toNat)) ∧
    completesReg (exec (.subu q rt ra rb) s) s 5 rt (BitVec.ofInt 64 ((s.reg ra).toNat - (s.reg rb).toNat : Int)) ∧
    completesReg (exec (.addu2 q rt ra rb) s) s 5 rt (BitVec.ofNat 64 ((s.reg ra).toNat * 2 + (s.reg rb).toNat)) ∧
    completesReg (exec (.addu4 q rt ra rb) s) s 5 rt (BitVec.ofNat 64 ((s.reg ra).toNat * 4 + (s.reg rb).toNat)) ∧
    completesReg (exec (.addu8 q rt ra rb) s) s 5 rt (BitVec.ofNat 64 ((s.reg ra).toNat * 8 + (s.reg rb).toNat)) ∧
    completesReg (exec (.addu16 q rt ra rb) s) s 5 rt (BitVec.ofNat 64 ((s.reg ra).toNat * 16 + (s.reg rb).toNat))) ∧
  (∀ (s : State) (q : Pred) (rt ra : Reg), s.Executes q [rt, ra] →
    completesReg (exec (.abs q rt ra) s) s 4 rt (BitVec.ofNat 64 (s.reg ra).toInt.natAbs) ∧
    completesReg (exec (.neg q rt ra) s) s 4 rt (BitVec.ofInt 64 (-(s.reg ra).toInt)) ∧
    completesReg (exec (.mov q rt ra) s) s 4 rt (s.reg ra)) ∧
  (∀ (q : Pred) (rt ra rb : Reg),
    encodeValue (.addu q rt ra rb) = formatRR q 0x40 4 rt ra rb ∧
    encodeValue (.subu q rt ra rb) = formatRR q 0x40 5 rt ra rb ∧
    encodeValue (.addu2 q rt ra rb) = formatRR q 0x40 8 rt ra rb ∧
    encodeValue (.addu4 q rt ra rb) = formatRR q 0x40 9 rt ra rb ∧
    encodeValue (.addu8 q rt ra rb) = formatRR q 0x40 10 rt ra rb ∧
    encodeValue (.addu16 q rt ra rb) = formatRR q 0x40 11 rt ra rb ∧
    encodeValue (.abs q rt ra) = formatR q 0xA7 3 rt ra ∧ encodeValue (.neg q rt ra) = formatR q 0xA7 1 rt ra ∧
    encodeValue (.mov q rt ra) = formatR q 0xA7 0 rt ra)

/-- R255, R259, R262 to R264, R272 to R275, R277, R278, R284 (the spec's decisions D4, D12, D31, D34). The assembled
constant is ImmediatePrefixes. -/
def Obligations.ImmediateArithmetic : Prop :=
  (∀ (s : State) (q : Pred) (rt ra : Reg) (imm : BitVec 12), s.Executes q [rt, ra] →
    completesReg (exec (.addui q rt ra imm) s) s 5 rt (BitVec.ofInt 64 ((s.reg ra).toInt + (s.imm imm).toInt)) ∧
    completesReg (exec (.subui q rt ra imm) s) s 5 rt (BitVec.ofInt 64 ((s.reg ra).toInt - (s.imm imm).toInt)) ∧
    completesReg (exec (.mului q rt ra imm) s) s 5 rt (BitVec.ofInt 64 ((s.reg ra).toInt * (s.imm imm).toInt)) ∧
    completesReg (exec (.addui2 q rt ra imm) s) s 5 rt (BitVec.ofInt 64 ((s.reg ra).toInt * 2 + (s.imm imm).toInt)) ∧
    completesReg (exec (.addui4 q rt ra imm) s) s 5 rt (BitVec.ofInt 64 ((s.reg ra).toInt * 4 + (s.imm imm).toInt)) ∧
    completesReg (exec (.addui8 q rt ra imm) s) s 5 rt (BitVec.ofInt 64 ((s.reg ra).toInt * 8 + (s.imm imm).toInt)) ∧
    completesReg (exec (.addui16 q rt ra imm) s) s 5 rt
      (BitVec.ofInt 64 ((s.reg ra).toInt * 16 + (s.imm imm).toInt))) ∧
  (∀ (s : State) (q : Pred) (rt ra rb : Reg), s.Executes q [rt, ra, rb] →
    completesReg (exec (.mulu q rt ra rb) s) s 5 rt (BitVec.ofNat 64 ((s.reg ra).toNat * (s.reg rb).toNat)) ∧
    completesReg (exec (.min q rt ra rb) s) s 5 rt (BitVec.ofInt 64 (min (s.reg ra).toInt (s.reg rb).toInt)) ∧
    completesReg (exec (.max q rt ra rb) s) s 5 rt (BitVec.ofInt 64 (max (s.reg ra).toInt (s.reg rb).toInt))) ∧
  (∀ (s : State) (q : Pred) (rt : Reg) (imm : BitVec 10), s.Executes q [rt] →
    completesReg (exec (.adduiShort q rt imm) s) s 4 rt (BitVec.ofInt 64 ((s.reg rt).toInt + (s.imm imm).toInt)) ∧
    completesReg (exec (.ldi q rt imm) s) s 4 rt (s.imm imm))

/-- R286 to R288 (the spec's decision D33; log 13) and R486, R487 (decision D48; log 14). -/
def Obligations.BcdAndCpuid : Prop :=
  (∀ (s : State) (q : Pred) (rt ra rb : Reg), s.Executes q [rt, ra, rb] →
    let a := (s.reg ra).toNat
    let b := (s.reg rb).toNat
    let x := 10 * (a / 16 % 16) + a % 16
    let y := 10 * (b / 16 % 16) + b % 16
    (a % 16 ≤ 9 → a / 16 % 16 ≤ 9 → b % 16 ≤ 9 → b / 16 % 16 ≤ 9 →
      completesReg (exec (.bcdadd q rt ra rb) s) s 5 rt
        (BitVec.ofNat 64 (16 * ((x + y) % 100 / 10) + (x + y) % 100 % 10)) ∧
      completesReg (exec (.bcdsub q rt ra rb) s) s 5 rt
        (BitVec.ofNat 64 (16 * ((100 + x - y) % 100 / 10) + (100 + x - y) % 100 % 10)) ∧
      completesReg (exec (.bcdmul q rt ra rb) s) s 5 rt
        (BitVec.ofNat 64 (4096 * (x * y / 1000) + 256 * (x * y / 100 % 10) + 16 * (x * y / 10 % 10) + x * y % 10))) ∧
    (∃ v, completesReg (exec (.bcdadd q rt ra rb) s) s 5 rt v) ∧
    (∃ v, completesReg (exec (.bcdsub q rt ra rb) s) s 5 rt v) ∧
    (∃ v, completesReg (exec (.bcdmul q rt ra rb) s) s 5 rt v)) ∧
  (∀ (s : State) (q : Pred) (rt ra : Reg), s.Executes q [rt, ra] →
    ∃ v, completesReg (exec (.cpuid q rt ra) s) s 4 rt v ∧
      (s.reg ra = 0 → v = zext Config.corenum) ∧ (s.reg ra = 2 → v = 0x6E6F7274696E6946) ∧
      (s.reg ra = 3 ∨ s.reg ra = 5 ∨ s.reg ra = 7 → v = 0) ∧ (s.reg ra = 4 → v = 0x0053537469423436) ∧
      (s.reg ra = 6 → v = 0x00000000726F6854) ∧ (s.reg ra = 8 → v = 0x000000000000314D) ∧
      (s.reg ra = 9 → v = 0x0000000034333231) ∧ (s.reg ra = 10 → v = Config.cpuidFeatures) ∧
      (s.reg ra = 11 → v = 0x0000400000008000))

/-- Bitwise logic (43_logic_shift_bitfield.md R301, R303, R304, R306, R307, R309 to R311, R313 to R315). -/
def Obligations.LogicResults : Prop :=
  (∀ (s : State) (q : Pred) (rt ra rb : Reg), s.Executes q [rt, ra, rb] →
    completesBits (exec (.and q rt ra rb) s) s 5 rt (fun j => (s.reg ra).getLsbD j && (s.reg rb).getLsbD j) ∧
    completesBits (exec (.andc q rt ra rb) s) s 5 rt (fun j => (s.reg ra).getLsbD j && !(s.reg rb).getLsbD j) ∧
    completesBits (exec (.or q rt ra rb) s) s 5 rt (fun j => (s.reg ra).getLsbD j || (s.reg rb).getLsbD j) ∧
    completesBits (exec (.orc q rt ra rb) s) s 5 rt (fun j => (s.reg ra).getLsbD j || !(s.reg rb).getLsbD j) ∧
    completesBits (exec (.eor q rt ra rb) s) s 5 rt (fun j => (s.reg ra).getLsbD j ^^ (s.reg rb).getLsbD j) ∧
    completesBits (exec (.nand q rt ra rb) s) s 5 rt (fun j => !((s.reg ra).getLsbD j && (s.reg rb).getLsbD j)) ∧
    completesBits (exec (.nor q rt ra rb) s) s 5 rt (fun j => !((s.reg ra).getLsbD j || (s.reg rb).getLsbD j)) ∧
    completesBits (exec (.enor q rt ra rb) s) s 5 rt (fun j => !((s.reg ra).getLsbD j ^^ (s.reg rb).getLsbD j))) ∧
  (∀ (s : State) (q : Pred) (rt ra rb rc : Reg), s.Executes q [rt, ra, rb, rc] →
    completesBits (exec (.mux q rt ra rb rc) s) s 5 rt
      (fun j => if (s.reg ra).getLsbD j then (s.reg rb).getLsbD j else (s.reg rc).getLsbD j)) ∧
  (∀ (s : State) (q : Pred) (rt ra : Reg), s.Executes q [rt, ra] →
    completesReg (exec (.not q rt ra) s) s 4 rt (if s.reg ra = 0 then 1 else 0) ∧
    completesBits (exec (.com q rt ra) s) s 4 rt (fun j => !(s.reg ra).getLsbD j)) ∧
  (∀ (q : Pred) (rt ra rb rc : Reg),
    encodeValue (.and q rt ra rb) = formatRR q 0x50 0 rt ra rb ∧
    encodeValue (.or q rt ra rb) = formatRR q 0x50 1 rt ra rb ∧
    encodeValue (.eor q rt ra rb) = formatRR q 0x50 2 rt ra rb ∧
    encodeValue (.nand q rt ra rb) = formatRR q 0x50 3 rt ra rb ∧
    encodeValue (.nor q rt ra rb) = formatRR q 0x50 4 rt ra rb ∧
    encodeValue (.enor q rt ra rb) = formatRR q 0x50 5 rt ra rb ∧
    encodeValue (.andc q rt ra rb) = formatRR q 0x50 6 rt ra rb ∧
    encodeValue (.orc q rt ra rb) = formatRR q 0x50 7 rt ra rb ∧
    encodeValue (.mux q rt ra rb rc) = predByte q + 2 ^ 8 * 0x72 + 2 ^ 16 * ra.toNat + 2 ^ 22 * rb.toNat +
      2 ^ 28 * rc.toNat + 2 ^ 34 * rt.toNat ∧
    encodeValue (.not q rt ra) = formatR q 0xA7 2 rt ra ∧ encodeValue (.com q rt ra) = formatR q 0xA7 11 rt ra)

/-- R302, R305, R308 (the spec's decision D4) and R312 (decision D49). -/
def Obligations.LogicImmediatesAndMlo : Prop :=
  (∀ (s : State) (q : Pred) (rt ra : Reg) (imm : BitVec 12), s.Executes q [rt, ra] →
    completesBits (exec (.andi q rt ra imm) s) s 5 rt (fun j => (s.reg ra).getLsbD j && (s.imm imm).getLsbD j) ∧
    completesBits (exec (.ori q rt ra imm) s) s 5 rt (fun j => (s.reg ra).getLsbD j || (s.imm imm).getLsbD j) ∧
    completesBits (exec (.eori q rt ra imm) s) s 5 rt (fun j => (s.reg ra).getLsbD j ^^ (s.imm imm).getLsbD j)) ∧
  (∀ (s : State) (q : Pred) (rt ra rb rc : Reg), s.Executes q [rt, ra, rb, rc] →
    ((s.reg rc).toNat ≤ 7 → completesBits (exec (.mlo q rt ra rb rc) s) s 5 rt (fun j =>
      let a := (s.reg ra).getLsbD j
      let b := (s.reg rb).getLsbD j
      [a && b, a || b, a ^^ b, !(a && b), !(a || b), !(a ^^ b), a && !b, a || !b].getD (s.reg rc).toNat false)) ∧
    (7 < (s.reg rc).toNat → exec (.mlo q rt ra rb rc) s = .refused .mloFunction))

/-- R320 to R332 (the spec's decision D13 for the count). -/
def Obligations.ShiftsAndRotates : Prop :=
  (∀ (s : State) (q : Pred) (rt ra rb : Reg), s.Executes q [rt, ra, rb] →
    completesReg (exec (.shl q rt ra rb) s) s 5 rt
      (BitVec.ofNat 64 ((s.reg ra).toNat * 2 ^ ((s.reg rb).toNat % 64))) ∧
    completesReg (exec (.shlu q rt ra rb) s) s 5 rt
      (BitVec.ofNat 64 ((s.reg ra).toNat * 2 ^ ((s.reg rb).toNat % 64))) ∧
    completesReg (exec (.shr q rt ra rb) s) s 5 rt
      (BitVec.ofInt 64 ((s.reg ra).toInt / 2 ^ ((s.reg rb).toNat % 64))) ∧
    completesReg (exec (.shru q rt ra rb) s) s 5 rt
      (BitVec.ofNat 64 ((s.reg ra).toNat / 2 ^ ((s.reg rb).toNat % 64))) ∧
    completesBits (exec (.rol q rt ra rb) s) s 5 rt
      (fun j => (s.reg ra).getLsbD ((j + (64 - (s.reg rb).toNat % 64)) % 64)) ∧
    completesBits (exec (.ror q rt ra rb) s) s 5 rt
      (fun j => (s.reg ra).getLsbD ((j + (s.reg rb).toNat % 64) % 64))) ∧
  (∀ (s : State) (q : Pred) (rt ra : Reg) (c : BitVec 6), s.Executes q [rt, ra] →
    completesReg (exec (.shli q rt ra c) s) s 5 rt (BitVec.ofNat 64 ((s.reg ra).toNat * 2 ^ c.toNat)) ∧
    completesReg (exec (.shlui q rt ra c) s) s 5 rt (BitVec.ofNat 64 ((s.reg ra).toNat * 2 ^ c.toNat)) ∧
    completesReg (exec (.shri q rt ra c) s) s 5 rt (BitVec.ofInt 64 ((s.reg ra).toInt / 2 ^ c.toNat)) ∧
    completesReg (exec (.shrui q rt ra c) s) s 5 rt (BitVec.ofNat 64 ((s.reg ra).toNat / 2 ^ c.toNat)) ∧
    completesBits (exec (.roli q rt ra c) s) s 5 rt (fun j => (s.reg ra).getLsbD ((j + (64 - c.toNat)) % 64)) ∧
    completesBits (exec (.rori q rt ra c) s) s 5 rt (fun j => (s.reg ra).getLsbD ((j + c.toNat) % 64)))

/-- Counts and extensions (43_logic_shift_bitfield.md R340 to R348). -/
def Obligations.CountsAndExtensions : Prop :=
  (∀ (s : State) (q : Pred) (rt ra : Reg), s.Executes q [rt, ra] →
    (∃ n, completesReg (exec (.cntlz q rt ra) s) s 4 rt (BitVec.ofNat 64 n) ∧ n ≤ 64 ∧
      (∀ k, k < n → (s.reg ra).getLsbD (63 - k) = false) ∧ (n < 64 → (s.reg ra).getLsbD (63 - n) = true)) ∧
    (∃ n, completesReg (exec (.cntlo q rt ra) s) s 4 rt (BitVec.ofNat 64 n) ∧ n ≤ 64 ∧
      (∀ k, k < n → (s.reg ra).getLsbD (63 - k) = true) ∧ (n < 64 → (s.reg ra).getLsbD (63 - n) = false)) ∧
    completesReg (exec (.cntpop q rt ra) s) s 4 rt
      (BitVec.ofNat 64 ((List.range 64).countP fun j => (s.reg ra).getLsbD j)) ∧
    completesBits (exec (.sxb q rt ra) s) s 4 rt
      (fun j => if j < 8 then (s.reg ra).getLsbD j else (s.reg ra).getLsbD 7) ∧
    completesBits (exec (.sxc q rt ra) s) s 4 rt
      (fun j => if j < 16 then (s.reg ra).getLsbD j else (s.reg ra).getLsbD 15) ∧
    completesBits (exec (.sxh q rt ra) s) s 4 rt
      (fun j => if j < 32 then (s.reg ra).getLsbD j else (s.reg ra).getLsbD 31) ∧
    completesBits (exec (.zxb q rt ra) s) s 4 rt (fun j => if j < 8 then (s.reg ra).getLsbD j else false) ∧
    completesBits (exec (.zxc q rt ra) s) s 4 rt (fun j => if j < 16 then (s.reg ra).getLsbD j else false) ∧
    completesBits (exec (.zxh q rt ra) s) s 4 rt (fun j => if j < 32 then (s.reg ra).getLsbD j else false)) ∧
  (∀ (q : Pred) (rt ra : Reg),
    encodeValue (.cntlz q rt ra) = formatR q 0xA7 5 rt ra ∧
    encodeValue (.cntlo q rt ra) = formatR q 0xA7 6 rt ra ∧
    encodeValue (.cntpop q rt ra) = formatR q 0xA7 7 rt ra ∧
    encodeValue (.sxb q rt ra) = formatR q 0xA7 8 rt ra ∧
    encodeValue (.sxc q rt ra) = formatR q 0xA7 9 rt ra ∧
    encodeValue (.sxh q rt ra) = formatR q 0xA7 10 rt ra ∧
    encodeValue (.zxb q rt ra) = formatR q 0xA7 12 rt ra ∧
    encodeValue (.zxc q rt ra) = formatR q 0xA7 13 rt ra ∧
    encodeValue (.zxh q rt ra) = formatR q 0xA7 14 rt ra)

/-- R350 to R357 (the spec's decision D50; mb above me is in ReservedFieldsRefused). -/
def Obligations.BitFields : Prop :=
  (∀ (s : State) (q : Pred) (rt ra : Reg) (mb me : BitVec 6), s.Executes q [rt, ra] → mb.toNat ≤ me.toNat →
    completesBits (exec (.bfins q rt ra mb me) s) s 6 rt
      (fun j => if mb.toNat ≤ j ∧ j ≤ me.toNat then (s.reg ra).getLsbD (j - mb.toNat) else (s.reg rt).getLsbD j) ∧
    completesBits (exec (.bfset q rt ra mb me) s) s 6 rt
      (fun j => if mb.toNat ≤ j ∧ j ≤ me.toNat then true else (s.reg ra).getLsbD j) ∧
    completesBits (exec (.bfclr q rt ra mb me) s) s 6 rt
      (fun j => if mb.toNat ≤ j ∧ j ≤ me.toNat then false else (s.reg ra).getLsbD j) ∧
    completesBits (exec (.bfchg q rt ra mb me) s) s 6 rt
      (fun j => if mb.toNat ≤ j ∧ j ≤ me.toNat then !(s.reg ra).getLsbD j else (s.reg ra).getLsbD j) ∧
    completesBits (exec (.bfext q rt ra mb me) s) s 6 rt (fun j => (s.reg ra).getLsbD (min (mb.toNat + j) me.toNat)) ∧
    completesBits (exec (.bfextu q rt ra mb me) s) s 6 rt
      (fun j => if mb.toNat + j ≤ me.toNat then (s.reg ra).getLsbD (mb.toNat + j) else false)) ∧
  (∀ (s : State) (q : Pred) (rt : Reg) (imm mb me : BitVec 6), s.Executes q [rt] → mb.toNat ≤ me.toNat →
    completesBits (exec (.bfinsi q rt imm mb me) s) s 6 rt (fun j =>
      if mb.toNat ≤ j ∧ j ≤ me.toNat then imm.getLsbD (j - mb.toNat) else (s.reg rt).getLsbD j))

/-- R222 to R225 (bit 3: the spec's decision D14; the constant: D4). -/
def Obligations.CompareFlags : Prop :=
  (∀ (s : State) (q : Pred) (pt : PredReg) (ra rb : Reg), s.Executes q [ra, rb] →
    completesFlags (exec (.cmp q pt ra rb) s) s 4 pt (decide (s.reg ra = s.reg rb))
      (decide ((s.reg ra).toInt < (s.reg rb).toInt)) (decide ((s.reg ra).toNat < (s.reg rb).toNat))) ∧
  (∀ (s : State) (q : Pred) (pt : PredReg) (ra : Reg) (imm : BitVec 10) (mask : BitVec 12), s.Executes q [ra] →
    completesFlags (exec (.cmpi q pt ra imm) s) s 4 pt (decide (s.reg ra = s.imm imm))
      (decide ((s.reg ra).toInt < (s.imm imm).toInt)) (decide ((s.reg ra).toNat < (s.imm imm).toNat)) ∧
    completesFlags (exec (.tst q pt ra) s) s 3 pt (decide (s.reg ra = 0)) (decide ((s.reg ra).toInt < 0)) false ∧
    completesFlags (exec (.biti q pt ra mask) s) s 5 pt (decide (s.reg ra &&& s.imm mask = 0))
      ((s.reg ra).getLsbD 63 && (s.imm mask).getLsbD 63) ((s.reg ra).getLsbD 0 && (s.imm mask).getLsbD 0))

/-- R229 to R238 (the numbering of the bits: the spec's decision D15). -/
def Obligations.PredicateLogic : Prop :=
  (∀ (s : State) (q : Pred) (bt ba bb : PredBit), s.holds q = true →
    completesBit (exec (.pand q bt ba bb) s) s bt (s.predBit ba && s.predBit bb) ∧
    completesBit (exec (.por q bt ba bb) s) s bt (s.predBit ba || s.predBit bb) ∧
    completesBit (exec (.peor q bt ba bb) s) s bt (s.predBit ba ^^ s.predBit bb) ∧
    completesBit (exec (.pnand q bt ba bb) s) s bt (!(s.predBit ba && s.predBit bb)) ∧
    completesBit (exec (.pnor q bt ba bb) s) s bt (!(s.predBit ba || s.predBit bb)) ∧
    completesBit (exec (.penor q bt ba bb) s) s bt (!(s.predBit ba ^^ s.predBit bb)) ∧
    completesBit (exec (.pandc q bt ba bb) s) s bt (s.predBit ba && !s.predBit bb) ∧
    completesBit (exec (.porc q bt ba bb) s) s bt (s.predBit ba || !s.predBit bb)) ∧
  (∀ (s : State) (b : PredBit), s.predBit b = (s.pred (BitVec.ofNat 4 (b.toNat / 4))).getLsbD (b.toNat % 4))

/-- R181, R182 (the spec's decisions D8, D9; LOOP_DEC_AT_ZERO at its default, log 38) and R31. -/
def Obligations.BranchesAndLoop : Prop :=
  (∀ (s : State) (q : Pred) (d : BitVec 12), s.holds q = true →
    completesPc (exec (.br q d) s) s (lowAdd (s.npc 3) d.toInt)) ∧
  (∀ (s : State) (q : Pred) (d : BitVec 8), s.holds q = true →
    (s.lc ≠ 0 → ∃ t, exec (.loop q d) s = .next t ∧ t.pc = lowAdd (s.npc 3) d.toInt ∧ t.lc = s.lc - 1 ∧
      SameMemory s t ∧ { t with lc := s.lc, pc := s.pc } = s) ∧
    (s.lc = 0 → completesPc (exec (.loop q d) s) s (s.npc 3))) ∧
  (∀ (s : State) (len : Nat),
    (s.immPrefix = none → s.npc len = lowAdd s.pc len) ∧
    (∀ p, s.immPrefix = some p → s.npc len = lowAdd s.pc (p.bytes + 1 + len : Nat)))

/-- R183 to R186, R191 to R193 (the spec's decision D7 for C15). The offset of JSR is ImmediatePrefixes. -/
def Obligations.JumpsAndReturns : Prop :=
  (∀ (s : State) (q : Pred) (crt cr : CodeReg) (o5 : BitVec 16) (o6 : BitVec 24), s.holds q = true →
    completesJump (exec (.jsr3 q crt cr) s) s crt (s.npc 3) (s.codeReg (s.npc 3) cr) ∧
    completesJump (exec (.jsr5 q crt cr o5) s) s crt (s.npc 5) (s.codeReg (s.npc 5) cr + s.jumpOffset cr o5) ∧
    completesJump (exec (.jsr6 q crt cr o6) s) s crt (s.npc 6) (s.codeReg (s.npc 6) cr + s.jumpOffset cr o6)) ∧
  (∀ (s : State) (q : Pred) (cr : CodeReg) (im4 : BitVec 4) (adj : BitVec 8), s.holds q = true →
    completesPc (exec (.rts3 q cr im4) s) s (s.codeReg (s.npc 3) cr + zext im4) ∧
    (adj.toNat % 8 = 0 → ∃ t, exec (.rts4 q cr im4 adj) s = .next t ∧
      WritesReg s t 27 (s.reg 27 + zext adj) (s.codeReg (s.npc 4) cr + zext im4))) ∧
  (∀ s : State, completesPc (exec .rts1 s) s (s.codeReg (s.npc 1) 1)) ∧
  (∀ (s : State) (n : Word), s.codeReg n 0 = 0 ∧ s.codeReg n 15 = n)

/-- R200, R201 (the spec's decision D42). -/
def Obligations.IndirectJumps : Prop :=
  (∀ (s : State) (q : Pred) (sg : SegReg) (ct : CodeReg) (ra : Reg) (disp : BitVec 9) (p : Phys), s.Executes q [ra] →
    (s.Reaches .load 0 sg (s.reg ra * 2 + s.imm disp) 2 p →
      completesJump (exec (.jci q sg ct ra disp) s) s ct (s.npc 5)
        (BitVec.ofNat 64 ((s.npc 5).toNat / 2 ^ 16 * 2 ^ 16 + (s.loadValue 0 p 2).toNat))) ∧
    (s.Reaches .load 0 sg (s.reg ra * 4 + s.imm disp) 4 p →
      completesJump (exec (.jhi q sg ct ra disp) s) s ct (s.npc 5)
        (BitVec.ofNat 64 ((s.npc 5).toNat / 2 ^ 32 * 2 ^ 32 + (s.loadValue 0 p 4).toNat))) ∧
    (s.Reaches .load 0 sg (s.reg ra * 8 + s.imm disp) 8 p →
      completesJump (exec (.jwi q sg ct ra disp) s) s ct (s.npc 5)
        (BitVec.ofNat 64 ((s.npc 5).toNat / 2 ^ 64 * 2 ^ 64 + (s.loadValue 0 p 8).toNat)))) ∧
  (∀ (s : State) (q : Pred) (sg : SegReg) (ct : CodeReg) (ra rb : Reg) (p : Phys), s.Executes q [ra, rb] →
    (s.Reaches .load 0 sg (s.reg ra + s.reg rb * 2) 2 p →
      completesJump (exec (.jcix q sg ct ra rb) s) s ct (s.npc 5)
        (BitVec.ofNat 64 ((s.npc 5).toNat / 2 ^ 16 * 2 ^ 16 + (s.loadValue 0 p 2).toNat))) ∧
    (s.Reaches .load 0 sg (s.reg ra + s.reg rb * 4) 4 p →
      completesJump (exec (.jhix q sg ct ra rb) s) s ct (s.npc 5)
        (BitVec.ofNat 64 ((s.npc 5).toNat / 2 ^ 32 * 2 ^ 32 + (s.loadValue 0 p 4).toNat))) ∧
    (s.Reaches .load 0 sg (s.reg ra + s.reg rb * 8) 8 p →
      completesJump (exec (.jwix q sg ct ra rb) s) s ct (s.npc 5)
        (BitVec.ofNat 64 ((s.npc 5).toNat / 2 ^ 64 * 2 ^ 64 + (s.loadValue 0 p 8).toNat))))

/-- R381 to R395, R410 to R413 (scale: the spec's decision D10; volatile as ordinary, log 20). The value is
StoreThenLoad. -/
def Obligations.LoadResults : Prop :=
  (∀ (s : State) (q : Pred) (sg : SegReg) (rt ra : Reg) (disp : BitVec 9) (p : Phys), s.Executes q [rt, ra] →
    (s.Reaches .load 0 sg (s.reg ra + s.imm disp) 1 p →
      completesReg (exec (.lb q sg rt ra disp) s) s 5 rt (sext ((s.loadValue 0 p 1).setWidth 8)) ∧
      completesReg (exec (.lbu q sg rt ra disp) s) s 5 rt (s.loadValue 0 p 1) ∧
      completesReg (exec (.lvb q sg rt ra disp) s) s 5 rt (sext ((s.loadValue 0 p 1).setWidth 8))) ∧
    (s.Reaches .load 0 sg (s.reg ra + s.imm disp) 2 p →
      completesReg (exec (.lc q sg rt ra disp) s) s 5 rt (sext ((s.loadValue 0 p 2).setWidth 16)) ∧
      completesReg (exec (.lcu q sg rt ra disp) s) s 5 rt (s.loadValue 0 p 2) ∧
      completesReg (exec (.lvc q sg rt ra disp) s) s 5 rt (sext ((s.loadValue 0 p 2).setWidth 16))) ∧
    (s.Reaches .load 0 sg (s.reg ra + s.imm disp) 4 p →
      completesReg (exec (.lh q sg rt ra disp) s) s 5 rt (sext ((s.loadValue 0 p 4).setWidth 32)) ∧
      completesReg (exec (.lhu q sg rt ra disp) s) s 5 rt (s.loadValue 0 p 4) ∧
      completesReg (exec (.lvh q sg rt ra disp) s) s 5 rt (sext ((s.loadValue 0 p 4).setWidth 32))) ∧
    (s.Reaches .load 0 sg (s.reg ra + s.imm disp) 8 p →
      completesReg (exec (.lw q sg rt ra disp) s) s 5 rt (s.loadValue 0 p 8) ∧
      completesReg (exec (.lvw q sg rt ra disp) s) s 5 rt (s.loadValue 0 p 8))) ∧
  (∀ (s : State) (q : Pred) (sg : SegReg) (sc : BitVec 2) (rt ra rb : Reg) (p : Phys), s.Executes q [rt, ra, rb] →
    (s.Reaches .load 0 sg (s.reg ra + s.reg rb * BitVec.ofNat 64 (2 ^ sc.toNat)) 1 p →
      completesReg (exec (.lbx q sg sc rt ra rb) s) s 5 rt (sext ((s.loadValue 0 p 1).setWidth 8)) ∧
      completesReg (exec (.lbux q sg sc rt ra rb) s) s 5 rt (s.loadValue 0 p 1)) ∧
    (s.Reaches .load 0 sg (s.reg ra + s.reg rb * BitVec.ofNat 64 (2 ^ sc.toNat)) 2 p →
      completesReg (exec (.lcx q sg sc rt ra rb) s) s 5 rt (sext ((s.loadValue 0 p 2).setWidth 16)) ∧
      completesReg (exec (.lcux q sg sc rt ra rb) s) s 5 rt (s.loadValue 0 p 2)) ∧
    (s.Reaches .load 0 sg (s.reg ra + s.reg rb * BitVec.ofNat 64 (2 ^ sc.toNat)) 4 p →
      completesReg (exec (.lhx q sg sc rt ra rb) s) s 5 rt (sext ((s.loadValue 0 p 4).setWidth 32)) ∧
      completesReg (exec (.lhux q sg sc rt ra rb) s) s 5 rt (s.loadValue 0 p 4)) ∧
    (s.Reaches .load 0 sg (s.reg ra + s.reg rb * BitVec.ofNat 64 (2 ^ sc.toNat)) 8 p →
      completesReg (exec (.lwx q sg sc rt ra rb) s) s 5 rt (s.loadValue 0 p 8))) ∧
  (∀ (s : State) (q : Pred) (sg : SegReg) (rt ra : Reg) (p : Phys), s.Executes q [rt, ra] →
    s.Reaches .load 0 sg (s.reg ra) 8 p →
    completesReg (exec (.lwShort q sg rt ra) s) s 4 rt (s.loadValue 0 p 8))

/-- R96, R379 (the spec's decision D47) and R418 (log 34 for the unassigned selectors). -/
def Obligations.PrefetchesDoNothing : Prop :=
  (∀ (s : State) (q : Pred) (sg : SegReg) (ra : Reg) (disp : BitVec 9), s.Executes q [0, ra] →
    (∀ i ∈ [Instr.lb q sg 0 ra disp, .lbu q sg 0 ra disp, .lc q sg 0 ra disp, .lcu q sg 0 ra disp,
      .lh q sg 0 ra disp, .lhu q sg 0 ra disp, .lw q sg 0 ra disp, .lvb q sg 0 ra disp, .lvc q sg 0 ra disp,
      .lvh q sg 0 ra disp, .lvw q sg 0 ra disp], completesPc (exec i s) s (s.npc 5)) ∧
    completesPc (exec (.lwShort q sg 0 ra) s) s (s.npc 4)) ∧
  (∀ (s : State) (q : Pred) (sg : SegReg) (sc : BitVec 2) (ra rb : Reg), s.Executes q [0, ra, rb] →
    ∀ i ∈ [Instr.lbx q sg sc 0 ra rb, .lbux q sg sc 0 ra rb, .lcx q sg sc 0 ra rb, .lcux q sg sc 0 ra rb,
      .lhx q sg sc 0 ra rb, .lhux q sg sc 0 ra rb, .lwx q sg sc 0 ra rb], completesPc (exec i s) s (s.npc 5)) ∧
  (∀ (s : State) (q : Pred) (sg : SegReg) (tgt : BitVec 6) (ra : Reg) (disp : BitVec 9), s.Executes q [ra] →
    completesPc (exec (.lcl q sg tgt ra disp) s) s (s.npc 5))

/-- R400 to R409, R93 (byte order: the spec's decision D1, log 47; scale D10; STIX D27), and 20_memory.md R117 for
what a fetch may still see (decision D26; log 19). -/
def Obligations.StoreResults : Prop :=
  (∀ (s : State) (q : Pred) (sg : SegReg) (rs ra : Reg) (disp : BitVec 9) (p : Phys), s.Executes q [rs, ra] →
    s.mem.wf = true →
    (s.Reaches .store 0 sg (s.reg ra + s.imm disp) 1 p →
      completesStore (exec (.sb q sg rs ra disp) s) s 5 p 1 (s.reg rs)) ∧
    (s.Reaches .store 0 sg (s.reg ra + s.imm disp) 2 p →
      completesStore (exec (.sc q sg rs ra disp) s) s 5 p 2 (s.reg rs)) ∧
    (s.Reaches .store 0 sg (s.reg ra + s.imm disp) 4 p →
      completesStore (exec (.sh q sg rs ra disp) s) s 5 p 4 (s.reg rs)) ∧
    (s.Reaches .store 0 sg (s.reg ra + s.imm disp) 8 p →
      completesStore (exec (.sw q sg rs ra disp) s) s 5 p 8 (s.reg rs))) ∧
  (∀ (s : State) (q : Pred) (sg : SegReg) (scale : BitVec 2) (rs ra rb : Reg) (p : Phys), s.Executes q [rs, ra, rb] →
    s.mem.wf = true →
    (s.Reaches .store 0 sg (s.reg ra + s.reg rb * BitVec.ofNat 64 (2 ^ scale.toNat)) 1 p →
      completesStore (exec (.sbx q sg scale rs ra rb) s) s 5 p 1 (s.reg rs)) ∧
    (s.Reaches .store 0 sg (s.reg ra + s.reg rb * BitVec.ofNat 64 (2 ^ scale.toNat)) 2 p →
      completesStore (exec (.scx q sg scale rs ra rb) s) s 5 p 2 (s.reg rs)) ∧
    (s.Reaches .store 0 sg (s.reg ra + s.reg rb * BitVec.ofNat 64 (2 ^ scale.toNat)) 4 p →
      completesStore (exec (.shx q sg scale rs ra rb) s) s 5 p 4 (s.reg rs)) ∧
    (s.Reaches .store 0 sg (s.reg ra + s.reg rb * BitVec.ofNat 64 (2 ^ scale.toNat)) 8 p →
      completesStore (exec (.swx q sg scale rs ra rb) s) s 5 p 8 (s.reg rs))) ∧
  (∀ (s : State) (q : Pred) (sg : SegReg) (imm : BitVec 6) (ra : Reg) (disp : BitVec 9) (p : Phys),
    s.Executes q [ra] → s.mem.wf = true → s.Reaches .store 0 sg (s.reg ra + s.imm disp) 8 p →
    completesStore (exec (.sti q sg imm ra disp) s) s 5 p 8 (BitVec.ofNat 64 imm.toNat)) ∧
  (∀ (s : State) (q : Pred) (scale : BitVec 2) (imm : BitVec 10) (ra rb : Reg) (p : Phys), s.Executes q [ra, rb] →
    s.mem.wf = true → s.Reaches .store 0 1 (s.reg ra + s.reg rb * BitVec.ofNat 64 (2 ^ scale.toNat)) 8 p →
    completesStore (exec (.stix q scale imm ra rb) s) s 5 p 8 (BitVec.ofNat 64 imm.toNat))

/-- R414, R415 and 20_memory.md R112 (the spec's decisions D16, D25, D47; logs 21, 32); what a fetch may still see
after the store is R117 (decision D26; log 19). -/
def Obligations.Reservation : Prop :=
  (∀ (s : State) (q : Pred) (sg : SegReg) (rt ra : Reg) (disp : BitVec 9) (p : Phys), s.Executes q [rt, ra] →
    s.Reaches .load 0 sg (s.reg ra + s.imm disp) 8 p →
    ∃ t, exec (.lvwar q sg rt ra disp) s = .next t ∧
      WritesReg { s with reservation := some p.pa } t rt (s.loadValue 0 p 8) (s.npc 5)) ∧
  (∀ (s : State) (q : Pred) (sg : SegReg) (rs ra : Reg) (disp : BitVec 9) (p : Phys), s.Executes q [rs, ra] →
    s.mem.wf = true → s.Reaches .store 0 sg (s.reg ra + s.imm disp) 8 p →
    ∃ t, exec (.swcr q sg rs ra disp) s = .next t ∧ t.reservation = none ∧ t.pc = s.npc 5 ∧
      (∀ k, k ≠ 0 → t.pred k = s.pred k) ∧
      (s.reserved p.pa = true → t.pred 0 = 0 ∧ StoresBytes s t p 8 (s.reg rs)) ∧
      (s.reserved p.pa = false → t.pred 0 = 1 ∧ SameMemory s t ∧ t.stale = s.stale ∧ t.tlb = s.tlb) ∧
      { t with
        preds := s.preds, reservation := s.reservation, pc := s.pc, mem := s.mem, stale := s.stale,
        tlb := s.tlb } = s) ∧
  (∀ (s : State) (pa : Word), (s.reservation = some pa → s.reserved pa = true) ∧
    (s.reservation = none → s.reserved pa = false))

/-- R416, R417 (the spec's decisions D11, D27; one access that loads and stores, log 31); what a fetch may still see
after the store is 20_memory.md R117 (decision D26; log 19). -/
def Obligations.CompareSwapAndIncrement : Prop :=
  (∀ (s : State) (q : Pred) (rt ra rb rc : Reg) (disp : BitVec 8) (p : Phys), s.Executes q [rt, ra, rb, rc] →
    s.mem.wf = true → s.Reaches .update 0 1 (s.reg ra + s.imm disp) 8 p →
    (s.loadValue 0 p 8 = s.reg rb → ∃ t, exec (.cas q rt ra rb rc disp) s = .next t ∧
      StoresBytes s t p 8 (s.reg rc) ∧ t.reg rt = (if rt = 0 then 0 else s.loadValue 0 p 8) ∧
      (∀ r, r ≠ rt → t.reg r = s.reg r) ∧ t.pc = s.npc 6 ∧
      { t with regs := s.regs, pc := s.pc, mem := s.mem, stale := s.stale, tlb := s.tlb } = s) ∧
    (s.loadValue 0 p 8 ≠ s.reg rb →
      completesReg (exec (.cas q rt ra rb rc disp) s) s 6 rt (s.loadValue 0 p 8))) ∧
  (∀ (s : State) (q : Pred) (sg sz : BitVec 3) (ra : Reg) (disp : BitVec 9) (amt : BitVec 8) (p : Phys),
    s.Executes q [ra] → s.mem.wf = true → sz.toNat ≤ 3 →
    s.Reaches .update 0 sg (s.reg ra + s.imm disp) (2 ^ sz.toNat) p →
    completesStore (exec (.inc q sg 0 sz ra disp amt) s) s 6 p (2 ^ sz.toNat)
      (BitVec.ofInt 64 ((s.loadValue 0 p (2 ^ sz.toNat)).toInt + amt.toInt)))

/-- R490 (the spec's decisions D14, D22, D32, D43; TICK and BIR are free values, log 15; MID and FEAT are constants
of the implementation, log 14). -/
def Obligations.SpecialRegisterReads : Prop :=
  ∀ (s : State) (q : Pred) (rt : Reg) (spr : SprNum), s.Executes q [rt] →
    (∀ k : PredReg, (spr.toNat = k.toNat → completesReg (exec (.mfspr q rt spr) s) s 4 rt (zext (s.pred k)))) ∧
    (∀ k : CodeReg,
      (spr.toNat = 16 + k.toNat → completesReg (exec (.mfspr q rt spr) s) s 4 rt (s.codeReg (s.npc 4) k))) ∧
    (∀ k : SegReg, (spr.toNat = 32 + k.toNat → completesReg (exec (.mfspr q rt spr) s) s 4 rt s.segs.base[k.toNat]) ∧
      (spr.toNat = 40 + k.toNat → completesReg (exec (.mfspr q rt spr) s) s 4 rt s.segs.limit[k.toNat])) ∧
    (spr.toNat = 48 → completesReg (exec (.mfspr q rt spr) s) s 4 rt Config.midValue) ∧
    (spr.toNat = 49 → completesReg (exec (.mfspr q rt spr) s) s 4 rt Config.featValue) ∧
    (spr = 50 → ∃ t v, exec (.mfspr q rt spr) s = .next t ∧ s.tick.toNat ≤ v.toNat ∧
      WritesReg { s with tick := v } t rt v (s.npc 4)) ∧
    (spr.toNat = 51 → completesReg (exec (.mfspr q rt spr) s) s 4 rt s.lc) ∧
    (spr = 52 → ∃ v : Word, completesReg (exec (.mfspr q rt spr) s) s 4 rt v ∧
      ∀ k : PredReg, v.extractLsb' (4 * k.toNat) 4 = s.pred k) ∧
    (spr.toNat = 53 → completesReg (exec (.mfspr q rt spr) s) s 4 rt (zext s.asid)) ∧
    (spr.toNat = 59 → completesReg (exec (.mfspr q rt spr) s) s 4 rt s.exc) ∧
    (spr = 60 → ∃ v, completesReg (exec (.mfspr q rt spr) s) s 4 rt v) ∧
    (∀ k : BitVec 2, spr = 61 → s.bir.toNat = k.toNat →
      completesReg (exec (.mfspr q rt spr) s) s 4 rt s.dbg.addr[k.toNat]) ∧
    (spr = 61 → s.bir = 4 → completesReg (exec (.mfspr q rt spr) s) s 4 rt s.dbg.ctrl) ∧
    (spr = 61 → s.bir = 5 → completesReg (exec (.mfspr q rt spr) s) s 4 rt s.dbg.stat)

/-- R491, R493 (the spec's decisions D14, D23, D32). -/
def Obligations.SpecialRegisterWrites : Prop :=
  (∀ (s : State) (q : Pred) (spr : SprNum) (ra : Reg), s.Executes q [ra] → s.sprUsable spr →
    ∃ t, exec (.mtspr q spr ra) s = .next t ∧ SprWritten s t spr (s.reg ra) (s.npc 4)) ∧
  (∀ (s : State) (q : Pred) (spr : SprNum) (imm : BitVec 10), s.holds q = true → s.sprUsable spr →
    ∃ t, exec (.ldis q spr imm) s = .next t ∧ SprWritten s t spr (s.imm imm) (s.npc 4))

/-- R492, R495, R419, R420 (the spec's decision D32; log 37); what a fetch may still see after SWS is 20_memory.md
R117 (decision D26; log 19). -/
def Obligations.SpecialRegisterMoves : Prop :=
  (∀ (s : State) (q : Pred) (sprt spr : SprNum), s.holds q = true → s.sprUsable sprt → s.sprUsable spr →
    ∃ v t, s.sprRead (s.npc 4) spr = .ok v ∧ exec (.movs q sprt spr) s = .next t ∧
      SprWritten (s.afterSprRead spr) t sprt v (s.npc 4)) ∧
  (∀ (s : State) (q : Pred) (sg : SegReg) (spr : SprNum) (ra : Reg) (disp : BitVec 9) (p : Phys), s.Executes q [ra] →
    s.sprUsable spr →
    (s.Reaches .load 0 sg (s.reg ra + s.imm disp) 8 p →
      ∃ t, exec (.lws q sg spr ra disp) s = .next t ∧ SprWritten s t spr (s.loadValue 0 p 8) (s.npc 5)) ∧
    (s.Reaches .store 0 sg (s.reg ra + s.imm disp) 8 p → s.mem.wf = true →
      ∃ v t, s.sprRead (s.npc 5) spr = .ok v ∧ exec (.sws q sg spr ra disp) s = .next t ∧
        Stores (s.afterSprRead spr) t p 8 v (s.npc 5))) ∧
  (∀ (s : State) (spr : SprNum), (spr ≠ 50 → s.afterSprRead spr = s) ∧
    ∃ v : Word, s.tick.toNat ≤ v.toNat ∧ s.afterSprRead 50 = { s with tick := v })

/-- R460 to R467 (the spec's decisions D40, D41; the progress note is the model's own, log 35); what a fetch may
still see after a store is 20_memory.md R117 (decision D26; log 19). -/
def Obligations.StringElements : Prop :=
  (∀ (s : State) (q : Pred) (sg : SegReg) (sz : Size) (dir : Direction) (ra rb rc : Reg), s.lc = 0 →
    (s.Executes q [ra, rb] → completesPc (exec (.stset q sg sz dir ra rb) s) s (s.npc 5)) ∧
    (s.Executes q [ra, rb, rc] → completesPc (exec (.stmov q sg sz dir ra rb rc) s) s (s.npc 5) ∧
      completesPc (exec (.stcmp q sg sz dir ra rb rc) s) s (s.npc 5) ∧
      completesPc (exec (.stfnd q sg sz dir ra rb rc) s) s (s.npc 5))) ∧
  (∀ (s : State) (q : Pred) (sg : SegReg) (sz : Size) (dir : Direction) (ra rb : Reg) (p : Phys), s.lc ≠ 0 →
    s.mem.wf = true → s.Executes q [ra, rb] → s.Reaches .store 0 sg (s.reg ra) (sizeBytes sz) p →
    ∃ t, exec (.stset q sg sz dir ra rb) s = .next t ∧ StoresBytes s t p (sizeBytes sz) (s.reg rb) ∧
      ElementEnds s t ra (s.reg ra + elementStep sz dir) (s.lc - 1) (s.npc 5)) ∧
  (∀ (s : State) (q : Pred) (sg : SegReg) (sz : Size) (dir : Direction) (ra rb rc : Reg) (p p' : Phys), s.lc ≠ 0 →
    s.Executes q [ra, rb, rc] → s.Reaches .load 0 sg (s.reg ra + s.reg rc) (sizeBytes sz) p →
    (s.Reaches .store 1 sg (s.reg rb + s.reg rc) (sizeBytes sz) p' → s.mem.wf = true →
      ∃ t, exec (.stmov q sg sz dir ra rb rc) s = .next t ∧
        StoresBytes s t p' (sizeBytes sz) (s.loadValue 0 p (sizeBytes sz)) ∧
        ElementEnds s t rc (s.reg rc + elementStep sz dir) (s.lc - 1) (s.npc 5)) ∧
    (s.Reaches .load 1 sg (s.reg rb + s.reg rc) (sizeBytes sz) p' →
      if s.loadValue 0 p (sizeBytes sz) = s.loadValue 1 p' (sizeBytes sz) then
        completesElement (exec (.stcmp q sg sz dir ra rb rc) s) s rc (s.reg rc + elementStep sz dir) (s.lc - 1)
          (s.npc 5)
      else completesElement (exec (.stcmp q sg sz dir ra rb rc) s) s rc (s.reg rc) 0 (s.npc 5)) ∧
    (if (s.loadValue 0 p (sizeBytes sz)).toNat = (s.reg rb).toNat % 2 ^ (8 * sizeBytes sz) then
        completesElement (exec (.stfnd q sg sz dir ra rb rc) s) s rc (s.reg rc) 0 (s.npc 5)
      else
        completesElement (exec (.stfnd q sg sz dir ra rb rc) s) s rc (s.reg rc + elementStep sz dir) (s.lc - 1)
          (s.npc 5))) ∧
  (sizeBytes .byte = 1 ∧ sizeBytes .char = 2 ∧ sizeBytes .half = 4 ∧ sizeBytes .word = 8 ∧
    ∀ sz, (elementStep sz .up).toInt = sizeBytes sz ∧ (elementStep sz .down).toInt = -sizeBytes sz)

/-- R480 to R482 (the spec's decisions D18, D19, D30; log 36). -/
def Obligations.CallsIntoTheVectorTable : Prop :=
  (∀ s : State, s.vectorInArea 0 → raises (exec .brk s) s 0 s.pc) ∧
  (∀ (s : State) (q : Pred) (off : BitVec 8), s.holds q = true → s.vectorInArea off →
    (∃ t, exec (.sys q 12 13 off) s = .next t ∧
      (∀ n c, t.codeReg n c = if c = 13 then s.npc 4 else s.codeReg n c) ∧
      t.exl.toNat = min (s.exl.toNat + 1) 255 ∧ t.pc = s.vectorBase + 16 * zext off ∧ SameMemory s t ∧
      { t with code := s.code, exl := s.exl, pc := s.pc } = s) ∧
    (∃ t, exec (.int q 12 14 off) s = .next t ∧ EntersInterrupt s t off s.pc ∧ t.exc = s.exc)) ∧
  (∀ (s : State) (q : Pred) (off : BitVec 8), s.holds q = true → ¬s.vectorInArea off →
    exec (.sys q 12 13 off) s = .refused .vectorOutsideArea ∧
    exec (.int q 12 14 off) s = .refused .vectorOutsideArea)

/-- The three returns (60_exceptions.md R580 to R582). -/
def Obligations.ReturnsFromExceptions : Prop :=
  (∀ (s : State) (q : Pred), s.holds q = true → s.kernel = true →
    (∃ t, exec (.rte q) s = .next t ∧ (∀ n, t.pc = s.codeReg n 13) ∧ t.exl.toNat = s.exl.toNat - 1 ∧ SameMemory s t ∧
      { t with exl := s.exl, pc := s.pc } = s) ∧
    (∃ t, exec (.rtd q) s = .next t ∧ (∀ n, t.pc = s.codeReg n 11) ∧ t.exl.toNat = s.exl.toNat - 1 ∧ SameMemory s t ∧
      { t with exl := s.exl, pc := s.pc } = s) ∧
    (∃ t, exec (.rti q) s = .next t ∧ (∀ n, t.pc = s.codeReg n 14) ∧ t.sr.getLsbD 15 = false ∧
      (∀ j, j < 15 → t.sr.getLsbD j = s.sr.getLsbD (16 + j)) ∧
      (∀ j, 16 ≤ j → t.sr.getLsbD j = s.sr.getLsbD j) ∧ t.hwi = false ∧ SameMemory s t ∧
      { t with sr := s.sr, hwi := s.hwi, pc := s.pc } = s)) ∧
  (∀ (s : State) (q : Pred), s.holds q = true → s.kernel = false → s.vectorInArea 245 →
    raises (exec (.rte q) s) s 245 s.pc ∧ raises (exec (.rtd q) s) s 245 s.pc ∧
    raises (exec (.rti q) s) s 245 s.pc) ∧
  (∀ q : Pred, takesImmediate (.rte q) = false ∧ takesImmediate (.rtd q) = false ∧ takesImmediate (.rti q) = false) ∧
  encode (.rte .always) = [0x01, 0xF3] ∧ encode (.rtd .always) = [0x01, 0xFC] ∧ encode (.rti .always) = [0x01, 0xF4]

/-- R496, R497, R499, R506. That SYNC drops the stale bytes that a CACHE command marked rests on 20_memory.md R117
and 70_reset_and_hazards.md R634 (the spec's decision D26) as log 19 reads them; the refreshed copies of C12 and the
segments on R631 and R632 (decisions D36, D23; logs 17, 18). -/
def Obligations.BarriersAndNop : Prop :=
  (∀ (s : State) (q : Pred),
    (∃ t, exec (.sync q) s = .next t ∧ t.pc = s.npc 2 ∧ (∀ n, t.c12Used = s.codeReg n 12) ∧
      t.segs = { s.segs with baseUsed := s.segs.base, limitUsed := s.segs.limit } ∧
      (∀ e, e ∈ t.stale ↔ e ∈ s.stale ∧ e.invalidated = false) ∧ SameMemory s t ∧
      { t with c12Used := s.c12Used, segs := s.segs, stale := s.stale, pc := s.pc } = s) ∧
    (∃ t, exec (.memsb q) s = .next t ∧ t.pc = s.npc 2 ∧
      t.segs = { s.segs with baseUsed := s.segs.base, limitUsed := s.segs.limit } ∧ SameMemory s t ∧
      { t with segs := s.segs, pc := s.pc } = s) ∧
    completesPc (exec (.memdb q) s) s (s.npc 2) ∧
    completesPc (exec (.nop2 q) s) s (s.npc 2) ∧
    completesPc (exec .nop1 s) s (s.npc 1) ∧ (s.immPrefix = none → s.npc 1 = seq s.pc 1) ∧
    (∀ i ∈ [Instr.sync q, .memsb q, .memdb q, .nop2 q, .nop1], takesImmediate i = false)) ∧
  encode (.sync .always) = [0x01, 0xF7] ∧ encode (.memsb .always) = [0x01, 0xF8] ∧
  encode (.memdb .always) = [0x01, 0xF9] ∧ encode (.nop2 .always) = [0x01, 0xF1] ∧ encode .nop1 = [0x10]

/-- R512 and R498 (CACHE: the spec's decision D26; logs 19, 20, 40). -/
def Obligations.ClockAndCacheCommands : Prop :=
  (∀ (s : State) (q : Pred) (imm : BitVec 16), s.holds q = true →
    ∃ t, exec (.stp q imm) s = .next t ∧ t.clk.rate = imm ∧
      (t.clk.stopped = true ↔ s.clk.stopped = true ∨ imm = 0) ∧ t.pc = s.npc 4 ∧ SameMemory s t ∧
      { t with clk := s.clk, pc := s.pc } = s) ∧
  (∀ (s : State) (q : Pred), s.holds q = true →
    (∃ t, exec (.cacheInvI q) s = .next t ∧ t.pc = s.npc 4 ∧
      t.stale.map (fun e => (e.addr, e.old)) = s.stale.map (fun e => (e.addr, e.old)) ∧
      (∀ e ∈ t.stale, e.invalidated = true) ∧ SameMemory s t ∧ { t with stale := s.stale, pc := s.pc } = s) ∧
    completesPc (exec (.cacheInvD q) s) s (s.npc 4)) ∧
  (∀ (s : State) (q : Pred) (ra : Reg), s.Executes q [ra] →
    (∃ t, exec (.cacheInvILine q ra) s = .next t ∧ t.pc = s.npc 4 ∧
      t.stale.map (fun e => (e.addr, e.old)) = s.stale.map (fun e => (e.addr, e.old)) ∧
      (∀ p, s.translate (s.fetchVa 0 (s.reg ra)) = .hit p → ∀ e ∈ t.stale, e.addr = p.pa.toNat →
        e.invalidated = true) ∧
      SameMemory s t ∧ { t with stale := s.stale, pc := s.pc } = s) ∧
    completesPc (exec (.cacheInvDLine q ra) s) s (s.npc 4))

/-- R139, R140, R142 (its last column as immediateOpcodes), R184, R185 (the spec's decisions D3, D4, D5, D6; log 26).
-/
def Obligations.ImmediatePrefixes : Prop :=
  (∀ s : State, s.immPrefix = none →
    (∀ c : BitVec 8, ∃ t, exec (.imm16 c) s = .next t ∧ PrefixTaken s t 1 c.toInt) ∧
    (∀ c : BitVec 16, ∃ t, exec (.imm24 c) s = .next t ∧ PrefixTaken s t 2 c.toInt) ∧
    (∀ c : BitVec 24, ∃ t, exec (.imm32 c) s = .next t ∧ PrefixTaken s t 3 c.toInt) ∧
    (∀ c : BitVec 32, ∃ t, exec (.imm40 c) s = .next t ∧ PrefixTaken s t 4 c.toInt) ∧
    (∀ c : BitVec 40, ∃ t, exec (.imm48 c) s = .next t ∧ PrefixTaken s t 5 c.toInt) ∧
    (∀ c : BitVec 48, ∃ t, exec (.imm56 c) s = .next t ∧ PrefixTaken s t 6 c.toInt) ∧
    (∀ c : BitVec 56, ∃ t, exec (.imm64 c) s = .next t ∧ PrefixTaken s t 7 c.toInt)) ∧
  (∀ (s : State) (w : Nat) (f : BitVec w) (cr : CodeReg), s.immPrefix = none → w ≤ 64 →
    (s.imm f).toInt = f.toInt ∧ (cr ≠ 15 → (s.jumpOffset cr f).toNat = f.toNat) ∧
    (cr = 15 → (s.jumpOffset cr f).toInt = f.toInt)) ∧
  (∀ i : Instr, takesImmediate i = true ↔
    isPrefix (encode i) = false ∧ ∃ b op rest, encode i = b :: op :: rest ∧ op.toNat ∈ immediateOpcodes)

/-- R521, R527, R530, and TLBEN beside them (46_system.md R526). -/
def Obligations.TlbSwitchCommands : Prop :=
  ∀ (s : State) (q : Pred), s.holds q = true → s.kernel = true →
    completesPc (exec (.tlbnop q) s) s (s.npc 4) ∧
    (∃ t, exec (.tlben q) s = .next t ∧ t.tlb = { s.tlb with enabled := true } ∧ t.pc = s.npc 4 ∧ SameMemory s t ∧
      { t with tlb := s.tlb, pc := s.pc } = s) ∧
    (∃ t, exec (.tlbdis q) s = .next t ∧ t.tlb = { s.tlb with enabled := false } ∧ t.pc = s.npc 4 ∧ SameMemory s t ∧
      { t with tlb := s.tlb, pc := s.pc } = s ∧ ∀ va, t.translate va = .hit { pa := va, entry := none }) ∧
    (∃ t, exec (.tlbinv q) s = .next t ∧ (∀ i, t.tlbEntry i = { s.tlbEntry i with v := false }) ∧ t.pc = s.npc 4 ∧
      SameMemory s t ∧ { t with tlb := { t.tlb with entries := s.tlb.entries }, pc := s.pc } = s)

/-- R522 to R525, R528, R529 (the spec's decision D24; draws, log 16; log 39). -/
def Obligations.TlbRegisterCommands : Prop :=
  (∀ (s : State) (q : Pred), s.holds q = true → s.kernel = true →
    (∃ v, exec (.tlbpb q) s = .next { s with tlb := { s.tlb with index := v }, pc := s.npc 4 }) ∧
    (∃ t, exec (.tlbrd q) s = .next t ∧ t.tlb.virtPage = zext (s.tlbEntry s.tlb.index).virtPage ∧
      t.tlb.physPage = zext (s.tlbEntry s.tlb.index).physPage ∧
      t.tlb.asidReg.extractLsb' 8 8 = (s.tlbEntry s.tlb.index).asid ∧
      t.tlb.asidReg.extractLsb' 4 3 = (s.tlbEntry s.tlb.index).c ∧
      t.tlb.asidReg.getLsbD 2 = (s.tlbEntry s.tlb.index).g ∧ t.tlb.asidReg.getLsbD 1 = (s.tlbEntry s.tlb.index).d ∧
      t.tlb.asidReg.getLsbD 0 = (s.tlbEntry s.tlb.index).v ∧ t.tlb.asidReg.getLsbD 3 = false ∧
      (∀ j, j = 7 ∨ 16 ≤ j → t.tlb.asidReg.getLsbD j = false) ∧ t.pc = s.npc 4 ∧ SameMemory s t ∧
      { t with
        tlb := { t.tlb with virtPage := s.tlb.virtPage, physPage := s.tlb.physPage, asidReg := s.tlb.asidReg }
        pc := s.pc } = s) ∧
    (∃ t, exec (.tlbwi q) s = .next t ∧ (∀ i, t.tlbEntry i = if i = s.tlb.index then
        { virtPage := s.tlb.virtPage.setWidth 52, physPage := s.tlb.physPage.setWidth 52,
          asid := s.tlb.asidReg.extractLsb' 8 8, c := s.tlb.asidReg.extractLsb' 4 3, g := s.tlb.asidReg.getLsbD 2,
          d := s.tlb.asidReg.getLsbD 1, v := s.tlb.asidReg.getLsbD 0 } else s.tlbEntry i) ∧
      t.pc = s.npc 4 ∧ SameMemory s t ∧ { t with tlb := { t.tlb with entries := s.tlb.entries }, pc := s.pc } = s) ∧
    (∃ t way, exec (.tlbwr q) s = .next t ∧ s.tlb.wired.toNat ≤ way ∧ way < 8 ∧
      (∀ i, t.tlbEntry i = if i.toNat = 8 * way + s.tlb.virtPage.toNat / 2 ^ (2 * s.tlb.pageSize.toNat) % 8 then
        { virtPage := s.tlb.virtPage.setWidth 52, physPage := s.tlb.physPage.setWidth 52,
          asid := s.tlb.asidReg.extractLsb' 8 8, c := s.tlb.asidReg.extractLsb' 4 3, g := s.tlb.asidReg.getLsbD 2,
          d := s.tlb.asidReg.getLsbD 1, v := s.tlb.asidReg.getLsbD 0 } else s.tlbEntry i) ∧
      t.pc = s.npc 4 ∧ SameMemory s t ∧ { t with tlb := { t.tlb with entries := s.tlb.entries }, pc := s.pc } = s)) ∧
  (∀ (s : State) (q : Pred) (r : Reg), s.holds q = true → s.kernel = true →
    completesReg (exec (.tlbrdreg q 0 r) s) s 4 r (zext s.tlb.wired) ∧
    completesReg (exec (.tlbrdreg q 1 r) s) s 4 r (zext s.tlb.index) ∧
    completesReg (exec (.tlbrdreg q 3 r) s) s 4 r (zext s.tlb.pageSize) ∧
    completesReg (exec (.tlbrdreg q 4 r) s) s 4 r s.tlb.virtPage ∧
    completesReg (exec (.tlbrdreg q 5 r) s) s 4 r s.tlb.physPage ∧
    completesReg (exec (.tlbrdreg q 7 r) s) s 4 r s.tlb.asidReg ∧
    completesReg (exec (.tlbrdreg q 8 r) s) s 4 r s.tlb.dma ∧
    completesReg (exec (.tlbrdreg q 9 r) s) s 4 r s.tlb.ima ∧
    completesReg (exec (.tlbrdreg q 10 r) s) s 4 r s.tlb.pta ∧
    completesReg (exec (.tlbrdreg q 11 r) s) s 4 r s.tlb.ptc ∧
    (∃ v : Word, s.tlb.wired.toNat ≤ v.toNat ∧ v.toNat < 8 ∧ completesReg (exec (.tlbrdreg q 2 r) s) s 4 r v) ∧
    exec (.tlbwrreg q 0 r) s = .next { s with tlb := { s.tlb with wired := (s.reg r).setWidth 3 }, pc := s.npc 4 } ∧
    exec (.tlbwrreg q 1 r) s = .next { s with tlb := { s.tlb with index := (s.reg r).setWidth 6 }, pc := s.npc 4 } ∧
    exec (.tlbwrreg q 3 r) s = .next { s with tlb := { s.tlb with pageSize := (s.reg r).setWidth 3 }, pc := s.npc 4 } ∧
    exec (.tlbwrreg q 4 r) s = .next { s with tlb := { s.tlb with virtPage := s.reg r }, pc := s.npc 4 } ∧
    exec (.tlbwrreg q 5 r) s = .next { s with tlb := { s.tlb with physPage := s.reg r }, pc := s.npc 4 } ∧
    exec (.tlbwrreg q 7 r) s = .next { s with tlb := { s.tlb with asidReg := s.reg r }, pc := s.npc 4 } ∧
    exec (.tlbwrreg q 8 r) s = .next { s with tlb := { s.tlb with dma := s.reg r }, pc := s.npc 4 } ∧
    exec (.tlbwrreg q 9 r) s = .next { s with tlb := { s.tlb with ima := s.reg r }, pc := s.npc 4 } ∧
    exec (.tlbwrreg q 10 r) s = .next { s with tlb := { s.tlb with pta := s.reg r }, pc := s.npc 4 } ∧
    exec (.tlbwrreg q 11 r) s = .next { s with tlb := { s.tlb with ptc := s.reg r }, pc := s.npc 4 } ∧
    exec (.tlbwrreg q 2 r) s = .next { s with pc := s.npc 4 })

/-- R540, R541, R543, R545, R547, R549, R550 (the spec's decision D29). -/
def Obligations.MapOnlyNamesStop : Prop :=
  (∀ (i : Instr) (s : State), mapOnly i = true → registersNamed i = [] →
    exec i s = .refused .floatingPoint ∨ exec i s = .refused .stackInstruction ∨ exec i s = .refused .nameOnly) ∧
  (∀ (s : State) (q : Pred),
    (∀ i ∈ [Instr.push q, .pea q, .pop q, .link q, .unlink q], exec i s = .refused .stackInstruction) ∧
    exec (.immFF q) s = .refused .nameOnly ∧ exec (.fmac q) s = .refused .floatingPoint) ∧
  (∀ (s : State) (q : Pred) (rt ra : Reg), s.Executes q [rt, ra] →
    ∀ i ∈ [Instr.sgn q rt ra, .redor q rt ra, .redand q rt ra, .par q rt ra], exec i s = .refused .nameOnly)

/-- R481, R482, R192, R350, R417, R53, R52, R528, R529 (the spec's decisions D11, D30, D32, D50; logs 37, 48). -/
def Obligations.ReservedFieldsRefused : Prop :=
  (∀ (i : Instr) (q : Pred) (s : State), predicateOf i = some q → s.Executes q (registersNamed i) → s.kernel = true →
    wellFormed i = false → ∃ r, exec i s = .refused r) ∧
  (∀ (s : State) (q : Pred) (a b : CodeReg) (off adj : BitVec 8) (im4 : BitVec 4), s.holds q = true →
    (a ≠ 12 ∨ b ≠ 13 → exec (.sys q a b off) s = .refused .callNibbles) ∧
    (a ≠ 12 ∨ b ≠ 14 → exec (.int q a b off) s = .refused .callNibbles) ∧
    (adj.toNat % 8 ≠ 0 → exec (.rts4 q a im4 adj) s = .refused .stackAdjust)) ∧
  (∀ (s : State) (q : Pred) (rt ra : Reg) (mb me : BitVec 6), s.Executes q [rt, ra] → me.toNat < mb.toNat →
    ∀ i ∈ [Instr.bfins q rt ra mb me, .bfset q rt ra mb me, .bfclr q rt ra mb me, .bfchg q rt ra mb me,
      .bfext q rt ra mb me, .bfextu q rt ra mb me], exec i s = .refused .bitFieldOrder) ∧
  (∀ (s : State) (q : Pred) (rt : Reg) (spr : SprNum), s.Executes q [rt] →
    (sprListed spr = false → exec (.mfspr q rt spr) s = .refused .sprNumber ∧
      exec (.mtspr q spr rt) s = .refused .sprNumber) ∧
    (5 < s.bir.toNat → exec (.mfspr q rt 61) s = .refused .breakoutIndex ∧
      exec (.mtspr q 61 rt) s = .refused .breakoutIndex)) ∧
  (∀ (s : State) (q : Pred) (sg o3 sz : BitVec 3) (ra : Reg) (disp : BitVec 9) (amt : BitVec 8), s.Executes q [ra] →
    o3 ≠ 0 ∨ 3 < sz.toNat → exec (.inc q sg o3 sz ra disp amt) s = .refused .incForm) ∧
  (∀ (s : State) (q : Pred) (tn : BitVec 4) (r : Reg), s.holds q = true → s.kernel = true → tn = 6 ∨ 12 ≤ tn.toNat →
    exec (.tlbrdreg q tn r) s = .refused .tlbRegister ∧ exec (.tlbwrreg q tn r) s = .refused .tlbRegister)
end

