-- ==== Sys2Proof/Laws/State.lean ====
section
/-! SUPPORT. What each update of the state leaves alone, field by field, and the reads of registers after writes. -/

set_option Elab.async false

namespace Sys2Proof.Machine

/-! ### setPc -/

@[simp] theorem State.setPc_regs (s : State) (t : Word) : (s.setPc t).regs = s.regs := rfl
@[simp] theorem State.setPc_code (s : State) (t : Word) : (s.setPc t).code = s.code := rfl
@[simp] theorem State.setPc_c12Used (s : State) (t : Word) : (s.setPc t).c12Used = s.c12Used := rfl
@[simp] theorem State.setPc_preds (s : State) (t : Word) : (s.setPc t).preds = s.preds := rfl
@[simp] theorem State.setPc_segs (s : State) (t : Word) : (s.setPc t).segs = s.segs := rfl
@[simp] theorem State.setPc_sr (s : State) (t : Word) : (s.setPc t).sr = s.sr := rfl
@[simp] theorem State.setPc_exl (s : State) (t : Word) : (s.setPc t).exl = s.exl := rfl
@[simp] theorem State.setPc_hwi (s : State) (t : Word) : (s.setPc t).hwi = s.hwi := rfl
@[simp] theorem State.setPc_lc (s : State) (t : Word) : (s.setPc t).lc = s.lc := rfl
@[simp] theorem State.setPc_asid (s : State) (t : Word) : (s.setPc t).asid = s.asid := rfl
@[simp] theorem State.setPc_exc (s : State) (t : Word) : (s.setPc t).exc = s.exc := rfl
@[simp] theorem State.setPc_bir (s : State) (t : Word) : (s.setPc t).bir = s.bir := rfl
@[simp] theorem State.setPc_tick (s : State) (t : Word) : (s.setPc t).tick = s.tick := rfl
@[simp] theorem State.setPc_dbg (s : State) (t : Word) : (s.setPc t).dbg = s.dbg := rfl
@[simp] theorem State.setPc_tlb (s : State) (t : Word) : (s.setPc t).tlb = s.tlb := rfl
@[simp] theorem State.setPc_clk (s : State) (t : Word) : (s.setPc t).clk = s.clk := rfl
@[simp] theorem State.setPc_reservation (s : State) (t : Word) : (s.setPc t).reservation = s.reservation := rfl
@[simp] theorem State.setPc_mem (s : State) (t : Word) : (s.setPc t).mem = s.mem := rfl
@[simp] theorem State.setPc_stale (s : State) (t : Word) : (s.setPc t).stale = s.stale := rfl
@[simp] theorem State.setPc_platform (s : State) (t : Word) : (s.setPc t).platform = s.platform := rfl
@[simp] theorem State.setPc_pins (s : State) (t : Word) : (s.setPc t).pins = s.pins := rfl
@[simp] theorem State.setPc_inputs (s : State) (t : Word) : (s.setPc t).inputs = s.inputs := rfl
@[simp] theorem State.setPc_nmiEdges (s : State) (t : Word) : (s.setPc t).nmiEdges = s.nmiEdges := rfl
@[simp] theorem State.setPc_immPrefix (s : State) (t : Word) : (s.setPc t).immPrefix = s.immPrefix := rfl
@[simp] theorem State.setPc_progress (s : State) (t : Word) : (s.setPc t).progress = s.progress := rfl
@[simp] theorem State.setPc_clock (s : State) (t : Word) : (s.setPc t).clock = s.clock := rfl

/-! ### setReg -/

@[simp] theorem State.setReg_code (s : State) (r : Reg) (v : Word) : (s.setReg r v).code = s.code := by
  unfold State.setReg; split <;> rfl
@[simp] theorem State.setReg_c12Used (s : State) (r : Reg) (v : Word) : (s.setReg r v).c12Used = s.c12Used := by
  unfold State.setReg; split <;> rfl
@[simp] theorem State.setReg_pc (s : State) (r : Reg) (v : Word) : (s.setReg r v).pc = s.pc := by
  unfold State.setReg; split <;> rfl
@[simp] theorem State.setReg_preds (s : State) (r : Reg) (v : Word) : (s.setReg r v).preds = s.preds := by
  unfold State.setReg; split <;> rfl
@[simp] theorem State.setReg_segs (s : State) (r : Reg) (v : Word) : (s.setReg r v).segs = s.segs := by
  unfold State.setReg; split <;> rfl
@[simp] theorem State.setReg_sr (s : State) (r : Reg) (v : Word) : (s.setReg r v).sr = s.sr := by
  unfold State.setReg; split <;> rfl
@[simp] theorem State.setReg_exl (s : State) (r : Reg) (v : Word) : (s.setReg r v).exl = s.exl := by
  unfold State.setReg; split <;> rfl
@[simp] theorem State.setReg_hwi (s : State) (r : Reg) (v : Word) : (s.setReg r v).hwi = s.hwi := by
  unfold State.setReg; split <;> rfl
@[simp] theorem State.setReg_lc (s : State) (r : Reg) (v : Word) : (s.setReg r v).lc = s.lc := by
  unfold State.setReg; split <;> rfl
@[simp] theorem State.setReg_asid (s : State) (r : Reg) (v : Word) : (s.setReg r v).asid = s.asid := by
  unfold State.setReg; split <;> rfl
@[simp] theorem State.setReg_exc (s : State) (r : Reg) (v : Word) : (s.setReg r v).exc = s.exc := by
  unfold State.setReg; split <;> rfl
@[simp] theorem State.setReg_bir (s : State) (r : Reg) (v : Word) : (s.setReg r v).bir = s.bir := by
  unfold State.setReg; split <;> rfl
@[simp] theorem State.setReg_tick (s : State) (r : Reg) (v : Word) : (s.setReg r v).tick = s.tick := by
  unfold State.setReg; split <;> rfl
@[simp] theorem State.setReg_dbg (s : State) (r : Reg) (v : Word) : (s.setReg r v).dbg = s.dbg := by
  unfold State.setReg; split <;> rfl
@[simp] theorem State.setReg_tlb (s : State) (r : Reg) (v : Word) : (s.setReg r v).tlb = s.tlb := by
  unfold State.setReg; split <;> rfl
@[simp] theorem State.setReg_clk (s : State) (r : Reg) (v : Word) : (s.setReg r v).clk = s.clk := by
  unfold State.setReg; split <;> rfl
@[simp] theorem State.setReg_reservation (s : State) (r : Reg) (v : Word) :
    (s.setReg r v).reservation = s.reservation := by
  unfold State.setReg; split <;> rfl
@[simp] theorem State.setReg_mem (s : State) (r : Reg) (v : Word) : (s.setReg r v).mem = s.mem := by
  unfold State.setReg; split <;> rfl
@[simp] theorem State.setReg_stale (s : State) (r : Reg) (v : Word) : (s.setReg r v).stale = s.stale := by
  unfold State.setReg; split <;> rfl
@[simp] theorem State.setReg_platform (s : State) (r : Reg) (v : Word) : (s.setReg r v).platform = s.platform := by
  unfold State.setReg; split <;> rfl
@[simp] theorem State.setReg_pins (s : State) (r : Reg) (v : Word) : (s.setReg r v).pins = s.pins := by
  unfold State.setReg; split <;> rfl
@[simp] theorem State.setReg_inputs (s : State) (r : Reg) (v : Word) : (s.setReg r v).inputs = s.inputs := by
  unfold State.setReg; split <;> rfl
@[simp] theorem State.setReg_nmiEdges (s : State) (r : Reg) (v : Word) : (s.setReg r v).nmiEdges = s.nmiEdges := by
  unfold State.setReg; split <;> rfl
@[simp] theorem State.setReg_immPrefix (s : State) (r : Reg) (v : Word) : (s.setReg r v).immPrefix = s.immPrefix := by
  unfold State.setReg; split <;> rfl
@[simp] theorem State.setReg_progress (s : State) (r : Reg) (v : Word) : (s.setReg r v).progress = s.progress := by
  unfold State.setReg; split <;> rfl
@[simp] theorem State.setReg_clock (s : State) (r : Reg) (v : Word) : (s.setReg r v).clock = s.clock := by
  unfold State.setReg; split <;> rfl

/-! ### setCodeReg -/

@[simp] theorem State.setCodeReg_regs (s : State) (c : CodeReg) (v : Word) : (s.setCodeReg c v).regs = s.regs := by
  unfold State.setCodeReg; split <;> rfl
@[simp] theorem State.setCodeReg_c12Used (s : State) (c : CodeReg) (v : Word) :
    (s.setCodeReg c v).c12Used = s.c12Used := by
  unfold State.setCodeReg; split <;> rfl
@[simp] theorem State.setCodeReg_pc (s : State) (c : CodeReg) (v : Word) : (s.setCodeReg c v).pc = s.pc := by
  unfold State.setCodeReg; split <;> rfl
@[simp] theorem State.setCodeReg_preds (s : State) (c : CodeReg) (v : Word) : (s.setCodeReg c v).preds = s.preds := by
  unfold State.setCodeReg; split <;> rfl
@[simp] theorem State.setCodeReg_segs (s : State) (c : CodeReg) (v : Word) : (s.setCodeReg c v).segs = s.segs := by
  unfold State.setCodeReg; split <;> rfl
@[simp] theorem State.setCodeReg_sr (s : State) (c : CodeReg) (v : Word) : (s.setCodeReg c v).sr = s.sr := by
  unfold State.setCodeReg; split <;> rfl
@[simp] theorem State.setCodeReg_exl (s : State) (c : CodeReg) (v : Word) : (s.setCodeReg c v).exl = s.exl := by
  unfold State.setCodeReg; split <;> rfl
@[simp] theorem State.setCodeReg_hwi (s : State) (c : CodeReg) (v : Word) : (s.setCodeReg c v).hwi = s.hwi := by
  unfold State.setCodeReg; split <;> rfl
@[simp] theorem State.setCodeReg_lc (s : State) (c : CodeReg) (v : Word) : (s.setCodeReg c v).lc = s.lc := by
  unfold State.setCodeReg; split <;> rfl
@[simp] theorem State.setCodeReg_asid (s : State) (c : CodeReg) (v : Word) : (s.setCodeReg c v).asid = s.asid := by
  unfold State.setCodeReg; split <;> rfl
@[simp] theorem State.setCodeReg_exc (s : State) (c : CodeReg) (v : Word) : (s.setCodeReg c v).exc = s.exc := by
  unfold State.setCodeReg; split <;> rfl
@[simp] theorem State.setCodeReg_bir (s : State) (c : CodeReg) (v : Word) : (s.setCodeReg c v).bir = s.bir := by
  unfold State.setCodeReg; split <;> rfl
@[simp] theorem State.setCodeReg_tick (s : State) (c : CodeReg) (v : Word) : (s.setCodeReg c v).tick = s.tick := by
  unfold State.setCodeReg; split <;> rfl
@[simp] theorem State.setCodeReg_dbg (s : State) (c : CodeReg) (v : Word) : (s.setCodeReg c v).dbg = s.dbg := by
  unfold State.setCodeReg; split <;> rfl
@[simp] theorem State.setCodeReg_tlb (s : State) (c : CodeReg) (v : Word) : (s.setCodeReg c v).tlb = s.tlb := by
  unfold State.setCodeReg; split <;> rfl
@[simp] theorem State.setCodeReg_clk (s : State) (c : CodeReg) (v : Word) : (s.setCodeReg c v).clk = s.clk := by
  unfold State.setCodeReg; split <;> rfl
@[simp] theorem State.setCodeReg_reservation (s : State) (c : CodeReg) (v : Word) :
    (s.setCodeReg c v).reservation = s.reservation := by
  unfold State.setCodeReg; split <;> rfl
@[simp] theorem State.setCodeReg_mem (s : State) (c : CodeReg) (v : Word) : (s.setCodeReg c v).mem = s.mem := by
  unfold State.setCodeReg; split <;> rfl
@[simp] theorem State.setCodeReg_stale (s : State) (c : CodeReg) (v : Word) : (s.setCodeReg c v).stale = s.stale := by
  unfold State.setCodeReg; split <;> rfl
@[simp] theorem State.setCodeReg_platform (s : State) (c : CodeReg) (v : Word) :
    (s.setCodeReg c v).platform = s.platform := by
  unfold State.setCodeReg; split <;> rfl
@[simp] theorem State.setCodeReg_pins (s : State) (c : CodeReg) (v : Word) : (s.setCodeReg c v).pins = s.pins := by
  unfold State.setCodeReg; split <;> rfl
@[simp] theorem State.setCodeReg_inputs (s : State) (c : CodeReg) (v : Word) :
    (s.setCodeReg c v).inputs = s.inputs := by
  unfold State.setCodeReg; split <;> rfl
@[simp] theorem State.setCodeReg_nmiEdges (s : State) (c : CodeReg) (v : Word) :
    (s.setCodeReg c v).nmiEdges = s.nmiEdges := by
  unfold State.setCodeReg; split <;> rfl
@[simp] theorem State.setCodeReg_immPrefix (s : State) (c : CodeReg) (v : Word) :
    (s.setCodeReg c v).immPrefix = s.immPrefix := by
  unfold State.setCodeReg; split <;> rfl
@[simp] theorem State.setCodeReg_progress (s : State) (c : CodeReg) (v : Word) :
    (s.setCodeReg c v).progress = s.progress := by
  unfold State.setCodeReg; split <;> rfl
@[simp] theorem State.setCodeReg_clock (s : State) (c : CodeReg) (v : Word) : (s.setCodeReg c v).clock = s.clock := by
  unfold State.setCodeReg; split <;> rfl

/-! ### setPred -/

@[simp] theorem State.setPred_regs (s : State) (p : PredReg) (v : BitVec 4) : (s.setPred p v).regs = s.regs := rfl
@[simp] theorem State.setPred_code (s : State) (p : PredReg) (v : BitVec 4) : (s.setPred p v).code = s.code := rfl
@[simp] theorem State.setPred_c12Used (s : State) (p : PredReg) (v : BitVec 4) :
    (s.setPred p v).c12Used = s.c12Used := rfl
@[simp] theorem State.setPred_pc (s : State) (p : PredReg) (v : BitVec 4) : (s.setPred p v).pc = s.pc := rfl
@[simp] theorem State.setPred_segs (s : State) (p : PredReg) (v : BitVec 4) : (s.setPred p v).segs = s.segs := rfl
@[simp] theorem State.setPred_sr (s : State) (p : PredReg) (v : BitVec 4) : (s.setPred p v).sr = s.sr := rfl
@[simp] theorem State.setPred_exl (s : State) (p : PredReg) (v : BitVec 4) : (s.setPred p v).exl = s.exl := rfl
@[simp] theorem State.setPred_hwi (s : State) (p : PredReg) (v : BitVec 4) : (s.setPred p v).hwi = s.hwi := rfl
@[simp] theorem State.setPred_lc (s : State) (p : PredReg) (v : BitVec 4) : (s.setPred p v).lc = s.lc := rfl
@[simp] theorem State.setPred_asid (s : State) (p : PredReg) (v : BitVec 4) : (s.setPred p v).asid = s.asid := rfl
@[simp] theorem State.setPred_exc (s : State) (p : PredReg) (v : BitVec 4) : (s.setPred p v).exc = s.exc := rfl
@[simp] theorem State.setPred_bir (s : State) (p : PredReg) (v : BitVec 4) : (s.setPred p v).bir = s.bir := rfl
@[simp] theorem State.setPred_tick (s : State) (p : PredReg) (v : BitVec 4) : (s.setPred p v).tick = s.tick := rfl
@[simp] theorem State.setPred_dbg (s : State) (p : PredReg) (v : BitVec 4) : (s.setPred p v).dbg = s.dbg := rfl
@[simp] theorem State.setPred_tlb (s : State) (p : PredReg) (v : BitVec 4) : (s.setPred p v).tlb = s.tlb := rfl
@[simp] theorem State.setPred_clk (s : State) (p : PredReg) (v : BitVec 4) : (s.setPred p v).clk = s.clk := rfl
@[simp] theorem State.setPred_reservation (s : State) (p : PredReg) (v : BitVec 4) :
    (s.setPred p v).reservation = s.reservation := rfl
@[simp] theorem State.setPred_mem (s : State) (p : PredReg) (v : BitVec 4) : (s.setPred p v).mem = s.mem := rfl
@[simp] theorem State.setPred_stale (s : State) (p : PredReg) (v : BitVec 4) : (s.setPred p v).stale = s.stale := rfl
@[simp] theorem State.setPred_platform (s : State) (p : PredReg) (v : BitVec 4) :
    (s.setPred p v).platform = s.platform := rfl
@[simp] theorem State.setPred_pins (s : State) (p : PredReg) (v : BitVec 4) : (s.setPred p v).pins = s.pins := rfl
@[simp] theorem State.setPred_inputs (s : State) (p : PredReg) (v : BitVec 4) : (s.setPred p v).inputs = s.inputs := rfl
@[simp] theorem State.setPred_nmiEdges (s : State) (p : PredReg) (v : BitVec 4) :
    (s.setPred p v).nmiEdges = s.nmiEdges := rfl
@[simp] theorem State.setPred_immPrefix (s : State) (p : PredReg) (v : BitVec 4) :
    (s.setPred p v).immPrefix = s.immPrefix := rfl
@[simp] theorem State.setPred_progress (s : State) (p : PredReg) (v : BitVec 4) :
    (s.setPred p v).progress = s.progress := rfl
@[simp] theorem State.setPred_clock (s : State) (p : PredReg) (v : BitVec 4) : (s.setPred p v).clock = s.clock := rfl

/-! ### setInterruptMask -/

@[simp] theorem State.setInterruptMask_regs (s : State) (v : Bool) : (s.setInterruptMask v).regs = s.regs := rfl
@[simp] theorem State.setInterruptMask_code (s : State) (v : Bool) : (s.setInterruptMask v).code = s.code := rfl
@[simp] theorem State.setInterruptMask_c12Used (s : State) (v : Bool) :
    (s.setInterruptMask v).c12Used = s.c12Used := rfl
@[simp] theorem State.setInterruptMask_pc (s : State) (v : Bool) : (s.setInterruptMask v).pc = s.pc := rfl
@[simp] theorem State.setInterruptMask_preds (s : State) (v : Bool) : (s.setInterruptMask v).preds = s.preds := rfl
@[simp] theorem State.setInterruptMask_segs (s : State) (v : Bool) : (s.setInterruptMask v).segs = s.segs := rfl
@[simp] theorem State.setInterruptMask_exl (s : State) (v : Bool) : (s.setInterruptMask v).exl = s.exl := rfl
@[simp] theorem State.setInterruptMask_hwi (s : State) (v : Bool) : (s.setInterruptMask v).hwi = s.hwi := rfl
@[simp] theorem State.setInterruptMask_lc (s : State) (v : Bool) : (s.setInterruptMask v).lc = s.lc := rfl
@[simp] theorem State.setInterruptMask_asid (s : State) (v : Bool) : (s.setInterruptMask v).asid = s.asid := rfl
@[simp] theorem State.setInterruptMask_exc (s : State) (v : Bool) : (s.setInterruptMask v).exc = s.exc := rfl
@[simp] theorem State.setInterruptMask_bir (s : State) (v : Bool) : (s.setInterruptMask v).bir = s.bir := rfl
@[simp] theorem State.setInterruptMask_tick (s : State) (v : Bool) : (s.setInterruptMask v).tick = s.tick := rfl
@[simp] theorem State.setInterruptMask_dbg (s : State) (v : Bool) : (s.setInterruptMask v).dbg = s.dbg := rfl
@[simp] theorem State.setInterruptMask_tlb (s : State) (v : Bool) : (s.setInterruptMask v).tlb = s.tlb := rfl
@[simp] theorem State.setInterruptMask_clk (s : State) (v : Bool) : (s.setInterruptMask v).clk = s.clk := rfl
@[simp] theorem State.setInterruptMask_reservation (s : State) (v : Bool) :
    (s.setInterruptMask v).reservation = s.reservation := rfl
@[simp] theorem State.setInterruptMask_mem (s : State) (v : Bool) : (s.setInterruptMask v).mem = s.mem := rfl
@[simp] theorem State.setInterruptMask_stale (s : State) (v : Bool) : (s.setInterruptMask v).stale = s.stale := rfl
@[simp] theorem State.setInterruptMask_platform (s : State) (v : Bool) :
    (s.setInterruptMask v).platform = s.platform := rfl
@[simp] theorem State.setInterruptMask_pins (s : State) (v : Bool) : (s.setInterruptMask v).pins = s.pins := rfl
@[simp] theorem State.setInterruptMask_inputs (s : State) (v : Bool) : (s.setInterruptMask v).inputs = s.inputs := rfl
@[simp] theorem State.setInterruptMask_nmiEdges (s : State) (v : Bool) :
    (s.setInterruptMask v).nmiEdges = s.nmiEdges := rfl
@[simp] theorem State.setInterruptMask_immPrefix (s : State) (v : Bool) :
    (s.setInterruptMask v).immPrefix = s.immPrefix := rfl
@[simp] theorem State.setInterruptMask_progress (s : State) (v : Bool) :
    (s.setInterruptMask v).progress = s.progress := rfl
@[simp] theorem State.setInterruptMask_clock (s : State) (v : Bool) : (s.setInterruptMask v).clock = s.clock := rfl

/-! ### setDirty -/

@[simp] theorem State.setDirty_regs (s : State) (e : Option (BitVec 6)) : (s.setDirty e).regs = s.regs := by
  cases e <;> rfl
@[simp] theorem State.setDirty_code (s : State) (e : Option (BitVec 6)) : (s.setDirty e).code = s.code := by
  cases e <;> rfl
@[simp] theorem State.setDirty_c12Used (s : State) (e : Option (BitVec 6)) : (s.setDirty e).c12Used = s.c12Used := by
  cases e <;> rfl
@[simp] theorem State.setDirty_pc (s : State) (e : Option (BitVec 6)) : (s.setDirty e).pc = s.pc := by
  cases e <;> rfl
@[simp] theorem State.setDirty_preds (s : State) (e : Option (BitVec 6)) : (s.setDirty e).preds = s.preds := by
  cases e <;> rfl
@[simp] theorem State.setDirty_segs (s : State) (e : Option (BitVec 6)) : (s.setDirty e).segs = s.segs := by
  cases e <;> rfl
@[simp] theorem State.setDirty_sr (s : State) (e : Option (BitVec 6)) : (s.setDirty e).sr = s.sr := by
  cases e <;> rfl
@[simp] theorem State.setDirty_exl (s : State) (e : Option (BitVec 6)) : (s.setDirty e).exl = s.exl := by
  cases e <;> rfl
@[simp] theorem State.setDirty_hwi (s : State) (e : Option (BitVec 6)) : (s.setDirty e).hwi = s.hwi := by
  cases e <;> rfl
@[simp] theorem State.setDirty_lc (s : State) (e : Option (BitVec 6)) : (s.setDirty e).lc = s.lc := by
  cases e <;> rfl
@[simp] theorem State.setDirty_asid (s : State) (e : Option (BitVec 6)) : (s.setDirty e).asid = s.asid := by
  cases e <;> rfl
@[simp] theorem State.setDirty_exc (s : State) (e : Option (BitVec 6)) : (s.setDirty e).exc = s.exc := by
  cases e <;> rfl
@[simp] theorem State.setDirty_bir (s : State) (e : Option (BitVec 6)) : (s.setDirty e).bir = s.bir := by
  cases e <;> rfl
@[simp] theorem State.setDirty_tick (s : State) (e : Option (BitVec 6)) : (s.setDirty e).tick = s.tick := by
  cases e <;> rfl
@[simp] theorem State.setDirty_dbg (s : State) (e : Option (BitVec 6)) : (s.setDirty e).dbg = s.dbg := by
  cases e <;> rfl
@[simp] theorem State.setDirty_clk (s : State) (e : Option (BitVec 6)) : (s.setDirty e).clk = s.clk := by
  cases e <;> rfl
@[simp] theorem State.setDirty_reservation (s : State) (e : Option (BitVec 6)) :
    (s.setDirty e).reservation = s.reservation := by
  cases e <;> rfl
@[simp] theorem State.setDirty_mem (s : State) (e : Option (BitVec 6)) : (s.setDirty e).mem = s.mem := by
  cases e <;> rfl
@[simp] theorem State.setDirty_stale (s : State) (e : Option (BitVec 6)) : (s.setDirty e).stale = s.stale := by
  cases e <;> rfl
@[simp] theorem State.setDirty_platform (s : State) (e : Option (BitVec 6)) : (s.setDirty e).platform = s.platform := by
  cases e <;> rfl
@[simp] theorem State.setDirty_pins (s : State) (e : Option (BitVec 6)) : (s.setDirty e).pins = s.pins := by
  cases e <;> rfl
@[simp] theorem State.setDirty_inputs (s : State) (e : Option (BitVec 6)) : (s.setDirty e).inputs = s.inputs := by
  cases e <;> rfl
@[simp] theorem State.setDirty_nmiEdges (s : State) (e : Option (BitVec 6)) : (s.setDirty e).nmiEdges =
    s.nmiEdges := by
  cases e <;> rfl
@[simp] theorem State.setDirty_immPrefix (s : State) (e : Option (BitVec 6)) :
    (s.setDirty e).immPrefix = s.immPrefix := by
  cases e <;> rfl
@[simp] theorem State.setDirty_progress (s : State) (e : Option (BitVec 6)) : (s.setDirty e).progress = s.progress := by
  cases e <;> rfl
@[simp] theorem State.setDirty_clock (s : State) (e : Option (BitVec 6)) : (s.setDirty e).clock = s.clock := by
  cases e <;> rfl

/-! ### setDebugStatus -/

@[simp] theorem State.setDebugStatus_regs (s : State) (h : Word) : (s.setDebugStatus h).regs = s.regs := rfl
@[simp] theorem State.setDebugStatus_code (s : State) (h : Word) : (s.setDebugStatus h).code = s.code := rfl
@[simp] theorem State.setDebugStatus_c12Used (s : State) (h : Word) : (s.setDebugStatus h).c12Used = s.c12Used := rfl
@[simp] theorem State.setDebugStatus_pc (s : State) (h : Word) : (s.setDebugStatus h).pc = s.pc := rfl
@[simp] theorem State.setDebugStatus_preds (s : State) (h : Word) : (s.setDebugStatus h).preds = s.preds := rfl
@[simp] theorem State.setDebugStatus_segs (s : State) (h : Word) : (s.setDebugStatus h).segs = s.segs := rfl
@[simp] theorem State.setDebugStatus_sr (s : State) (h : Word) : (s.setDebugStatus h).sr = s.sr := rfl
@[simp] theorem State.setDebugStatus_exl (s : State) (h : Word) : (s.setDebugStatus h).exl = s.exl := rfl
@[simp] theorem State.setDebugStatus_hwi (s : State) (h : Word) : (s.setDebugStatus h).hwi = s.hwi := rfl
@[simp] theorem State.setDebugStatus_lc (s : State) (h : Word) : (s.setDebugStatus h).lc = s.lc := rfl
@[simp] theorem State.setDebugStatus_asid (s : State) (h : Word) : (s.setDebugStatus h).asid = s.asid := rfl
@[simp] theorem State.setDebugStatus_exc (s : State) (h : Word) : (s.setDebugStatus h).exc = s.exc := rfl
@[simp] theorem State.setDebugStatus_bir (s : State) (h : Word) : (s.setDebugStatus h).bir = s.bir := rfl
@[simp] theorem State.setDebugStatus_tick (s : State) (h : Word) : (s.setDebugStatus h).tick = s.tick := rfl
@[simp] theorem State.setDebugStatus_tlb (s : State) (h : Word) : (s.setDebugStatus h).tlb = s.tlb := rfl
@[simp] theorem State.setDebugStatus_clk (s : State) (h : Word) : (s.setDebugStatus h).clk = s.clk := rfl
@[simp] theorem State.setDebugStatus_reservation (s : State) (h : Word) :
    (s.setDebugStatus h).reservation = s.reservation := rfl
@[simp] theorem State.setDebugStatus_mem (s : State) (h : Word) : (s.setDebugStatus h).mem = s.mem := rfl
@[simp] theorem State.setDebugStatus_stale (s : State) (h : Word) : (s.setDebugStatus h).stale = s.stale := rfl
@[simp] theorem State.setDebugStatus_platform (s : State) (h : Word) : (s.setDebugStatus h).platform = s.platform := rfl
@[simp] theorem State.setDebugStatus_pins (s : State) (h : Word) : (s.setDebugStatus h).pins = s.pins := rfl
@[simp] theorem State.setDebugStatus_inputs (s : State) (h : Word) : (s.setDebugStatus h).inputs = s.inputs := rfl
@[simp] theorem State.setDebugStatus_nmiEdges (s : State) (h : Word) : (s.setDebugStatus h).nmiEdges = s.nmiEdges := rfl
@[simp] theorem State.setDebugStatus_immPrefix (s : State) (h : Word) :
    (s.setDebugStatus h).immPrefix = s.immPrefix := rfl
@[simp] theorem State.setDebugStatus_progress (s : State) (h : Word) : (s.setDebugStatus h).progress = s.progress := rfl
@[simp] theorem State.setDebugStatus_clock (s : State) (h : Word) : (s.setDebugStatus h).clock = s.clock := rfl

/-! ### recordDataMiss -/

@[simp] theorem State.recordDataMiss_regs (s : State) (va : Word) : (s.recordDataMiss va).regs = s.regs := by
  unfold State.recordDataMiss; split <;> rfl
@[simp] theorem State.recordDataMiss_code (s : State) (va : Word) : (s.recordDataMiss va).code = s.code := by
  unfold State.recordDataMiss; split <;> rfl
@[simp] theorem State.recordDataMiss_c12Used (s : State) (va : Word) : (s.recordDataMiss va).c12Used = s.c12Used := by
  unfold State.recordDataMiss; split <;> rfl
@[simp] theorem State.recordDataMiss_pc (s : State) (va : Word) : (s.recordDataMiss va).pc = s.pc := by
  unfold State.recordDataMiss; split <;> rfl
@[simp] theorem State.recordDataMiss_preds (s : State) (va : Word) : (s.recordDataMiss va).preds = s.preds := by
  unfold State.recordDataMiss; split <;> rfl
@[simp] theorem State.recordDataMiss_segs (s : State) (va : Word) : (s.recordDataMiss va).segs = s.segs := by
  unfold State.recordDataMiss; split <;> rfl
@[simp] theorem State.recordDataMiss_sr (s : State) (va : Word) : (s.recordDataMiss va).sr = s.sr := by
  unfold State.recordDataMiss; split <;> rfl
@[simp] theorem State.recordDataMiss_exl (s : State) (va : Word) : (s.recordDataMiss va).exl = s.exl := by
  unfold State.recordDataMiss; split <;> rfl
@[simp] theorem State.recordDataMiss_hwi (s : State) (va : Word) : (s.recordDataMiss va).hwi = s.hwi := by
  unfold State.recordDataMiss; split <;> rfl
@[simp] theorem State.recordDataMiss_lc (s : State) (va : Word) : (s.recordDataMiss va).lc = s.lc := by
  unfold State.recordDataMiss; split <;> rfl
@[simp] theorem State.recordDataMiss_asid (s : State) (va : Word) : (s.recordDataMiss va).asid = s.asid := by
  unfold State.recordDataMiss; split <;> rfl
@[simp] theorem State.recordDataMiss_exc (s : State) (va : Word) : (s.recordDataMiss va).exc = s.exc := by
  unfold State.recordDataMiss; split <;> rfl
@[simp] theorem State.recordDataMiss_bir (s : State) (va : Word) : (s.recordDataMiss va).bir = s.bir := by
  unfold State.recordDataMiss; split <;> rfl
@[simp] theorem State.recordDataMiss_tick (s : State) (va : Word) : (s.recordDataMiss va).tick = s.tick := by
  unfold State.recordDataMiss; split <;> rfl
@[simp] theorem State.recordDataMiss_dbg (s : State) (va : Word) : (s.recordDataMiss va).dbg = s.dbg := by
  unfold State.recordDataMiss; split <;> rfl
@[simp] theorem State.recordDataMiss_clk (s : State) (va : Word) : (s.recordDataMiss va).clk = s.clk := by
  unfold State.recordDataMiss; split <;> rfl
@[simp] theorem State.recordDataMiss_reservation (s : State) (va : Word) :
    (s.recordDataMiss va).reservation = s.reservation := by
  unfold State.recordDataMiss; split <;> rfl
@[simp] theorem State.recordDataMiss_mem (s : State) (va : Word) : (s.recordDataMiss va).mem = s.mem := by
  unfold State.recordDataMiss; split <;> rfl
@[simp] theorem State.recordDataMiss_stale (s : State) (va : Word) : (s.recordDataMiss va).stale = s.stale := by
  unfold State.recordDataMiss; split <;> rfl
@[simp] theorem State.recordDataMiss_platform (s : State) (va : Word) :
    (s.recordDataMiss va).platform = s.platform := by
  unfold State.recordDataMiss; split <;> rfl
@[simp] theorem State.recordDataMiss_pins (s : State) (va : Word) : (s.recordDataMiss va).pins = s.pins := by
  unfold State.recordDataMiss; split <;> rfl
@[simp] theorem State.recordDataMiss_inputs (s : State) (va : Word) : (s.recordDataMiss va).inputs = s.inputs := by
  unfold State.recordDataMiss; split <;> rfl
@[simp] theorem State.recordDataMiss_nmiEdges (s : State) (va : Word) : (s.recordDataMiss va).nmiEdges =
    s.nmiEdges := by
  unfold State.recordDataMiss; split <;> rfl
@[simp] theorem State.recordDataMiss_immPrefix (s : State) (va : Word) :
    (s.recordDataMiss va).immPrefix = s.immPrefix := by
  unfold State.recordDataMiss; split <;> rfl
@[simp] theorem State.recordDataMiss_progress (s : State) (va : Word) :
    (s.recordDataMiss va).progress = s.progress := by
  unfold State.recordDataMiss; split <;> rfl
@[simp] theorem State.recordDataMiss_clock (s : State) (va : Word) : (s.recordDataMiss va).clock = s.clock := by
  unfold State.recordDataMiss; split <;> rfl

/-! ### recordFetchMiss -/

@[simp] theorem State.recordFetchMiss_regs (s : State) (va : Word) : (s.recordFetchMiss va).regs = s.regs := by
  unfold State.recordFetchMiss; split <;> rfl
@[simp] theorem State.recordFetchMiss_code (s : State) (va : Word) : (s.recordFetchMiss va).code = s.code := by
  unfold State.recordFetchMiss; split <;> rfl
@[simp] theorem State.recordFetchMiss_c12Used (s : State) (va : Word) : (s.recordFetchMiss va).c12Used = s.c12Used := by
  unfold State.recordFetchMiss; split <;> rfl
@[simp] theorem State.recordFetchMiss_pc (s : State) (va : Word) : (s.recordFetchMiss va).pc = s.pc := by
  unfold State.recordFetchMiss; split <;> rfl
@[simp] theorem State.recordFetchMiss_preds (s : State) (va : Word) : (s.recordFetchMiss va).preds = s.preds := by
  unfold State.recordFetchMiss; split <;> rfl
@[simp] theorem State.recordFetchMiss_segs (s : State) (va : Word) : (s.recordFetchMiss va).segs = s.segs := by
  unfold State.recordFetchMiss; split <;> rfl
@[simp] theorem State.recordFetchMiss_sr (s : State) (va : Word) : (s.recordFetchMiss va).sr = s.sr := by
  unfold State.recordFetchMiss; split <;> rfl
@[simp] theorem State.recordFetchMiss_exl (s : State) (va : Word) : (s.recordFetchMiss va).exl = s.exl := by
  unfold State.recordFetchMiss; split <;> rfl
@[simp] theorem State.recordFetchMiss_hwi (s : State) (va : Word) : (s.recordFetchMiss va).hwi = s.hwi := by
  unfold State.recordFetchMiss; split <;> rfl
@[simp] theorem State.recordFetchMiss_lc (s : State) (va : Word) : (s.recordFetchMiss va).lc = s.lc := by
  unfold State.recordFetchMiss; split <;> rfl
@[simp] theorem State.recordFetchMiss_asid (s : State) (va : Word) : (s.recordFetchMiss va).asid = s.asid := by
  unfold State.recordFetchMiss; split <;> rfl
@[simp] theorem State.recordFetchMiss_exc (s : State) (va : Word) : (s.recordFetchMiss va).exc = s.exc := by
  unfold State.recordFetchMiss; split <;> rfl
@[simp] theorem State.recordFetchMiss_bir (s : State) (va : Word) : (s.recordFetchMiss va).bir = s.bir := by
  unfold State.recordFetchMiss; split <;> rfl
@[simp] theorem State.recordFetchMiss_tick (s : State) (va : Word) : (s.recordFetchMiss va).tick = s.tick := by
  unfold State.recordFetchMiss; split <;> rfl
@[simp] theorem State.recordFetchMiss_dbg (s : State) (va : Word) : (s.recordFetchMiss va).dbg = s.dbg := by
  unfold State.recordFetchMiss; split <;> rfl
@[simp] theorem State.recordFetchMiss_clk (s : State) (va : Word) : (s.recordFetchMiss va).clk = s.clk := by
  unfold State.recordFetchMiss; split <;> rfl
@[simp] theorem State.recordFetchMiss_reservation (s : State) (va : Word) :
    (s.recordFetchMiss va).reservation = s.reservation := by
  unfold State.recordFetchMiss; split <;> rfl
@[simp] theorem State.recordFetchMiss_mem (s : State) (va : Word) : (s.recordFetchMiss va).mem = s.mem := by
  unfold State.recordFetchMiss; split <;> rfl
@[simp] theorem State.recordFetchMiss_stale (s : State) (va : Word) : (s.recordFetchMiss va).stale = s.stale := by
  unfold State.recordFetchMiss; split <;> rfl
@[simp] theorem State.recordFetchMiss_platform (s : State) (va : Word) :
    (s.recordFetchMiss va).platform = s.platform := by
  unfold State.recordFetchMiss; split <;> rfl
@[simp] theorem State.recordFetchMiss_pins (s : State) (va : Word) : (s.recordFetchMiss va).pins = s.pins := by
  unfold State.recordFetchMiss; split <;> rfl
@[simp] theorem State.recordFetchMiss_inputs (s : State) (va : Word) : (s.recordFetchMiss va).inputs = s.inputs := by
  unfold State.recordFetchMiss; split <;> rfl
@[simp] theorem State.recordFetchMiss_nmiEdges (s : State) (va : Word) : (s.recordFetchMiss va).nmiEdges =
    s.nmiEdges := by
  unfold State.recordFetchMiss; split <;> rfl
@[simp] theorem State.recordFetchMiss_immPrefix (s : State) (va : Word) :
    (s.recordFetchMiss va).immPrefix = s.immPrefix := by
  unfold State.recordFetchMiss; split <;> rfl
@[simp] theorem State.recordFetchMiss_progress (s : State) (va : Word) :
    (s.recordFetchMiss va).progress = s.progress := by
  unfold State.recordFetchMiss; split <;> rfl
@[simp] theorem State.recordFetchMiss_clock (s : State) (va : Word) : (s.recordFetchMiss va).clock = s.clock := by
  unfold State.recordFetchMiss; split <;> rfl

/-! ### storeByte -/

@[simp] theorem State.storeByte_regs (s : State) (a : Nat) (b : Byte) : (s.storeByte a b).regs = s.regs := by
  unfold State.storeByte; split <;> rfl
@[simp] theorem State.storeByte_code (s : State) (a : Nat) (b : Byte) : (s.storeByte a b).code = s.code := by
  unfold State.storeByte; split <;> rfl
@[simp] theorem State.storeByte_c12Used (s : State) (a : Nat) (b : Byte) : (s.storeByte a b).c12Used = s.c12Used := by
  unfold State.storeByte; split <;> rfl
@[simp] theorem State.storeByte_pc (s : State) (a : Nat) (b : Byte) : (s.storeByte a b).pc = s.pc := by
  unfold State.storeByte; split <;> rfl
@[simp] theorem State.storeByte_preds (s : State) (a : Nat) (b : Byte) : (s.storeByte a b).preds = s.preds := by
  unfold State.storeByte; split <;> rfl
@[simp] theorem State.storeByte_segs (s : State) (a : Nat) (b : Byte) : (s.storeByte a b).segs = s.segs := by
  unfold State.storeByte; split <;> rfl
@[simp] theorem State.storeByte_sr (s : State) (a : Nat) (b : Byte) : (s.storeByte a b).sr = s.sr := by
  unfold State.storeByte; split <;> rfl
@[simp] theorem State.storeByte_exl (s : State) (a : Nat) (b : Byte) : (s.storeByte a b).exl = s.exl := by
  unfold State.storeByte; split <;> rfl
@[simp] theorem State.storeByte_hwi (s : State) (a : Nat) (b : Byte) : (s.storeByte a b).hwi = s.hwi := by
  unfold State.storeByte; split <;> rfl
@[simp] theorem State.storeByte_lc (s : State) (a : Nat) (b : Byte) : (s.storeByte a b).lc = s.lc := by
  unfold State.storeByte; split <;> rfl
@[simp] theorem State.storeByte_asid (s : State) (a : Nat) (b : Byte) : (s.storeByte a b).asid = s.asid := by
  unfold State.storeByte; split <;> rfl
@[simp] theorem State.storeByte_exc (s : State) (a : Nat) (b : Byte) : (s.storeByte a b).exc = s.exc := by
  unfold State.storeByte; split <;> rfl
@[simp] theorem State.storeByte_bir (s : State) (a : Nat) (b : Byte) : (s.storeByte a b).bir = s.bir := by
  unfold State.storeByte; split <;> rfl
@[simp] theorem State.storeByte_tick (s : State) (a : Nat) (b : Byte) : (s.storeByte a b).tick = s.tick := by
  unfold State.storeByte; split <;> rfl
@[simp] theorem State.storeByte_dbg (s : State) (a : Nat) (b : Byte) : (s.storeByte a b).dbg = s.dbg := by
  unfold State.storeByte; split <;> rfl
@[simp] theorem State.storeByte_tlb (s : State) (a : Nat) (b : Byte) : (s.storeByte a b).tlb = s.tlb := by
  unfold State.storeByte; split <;> rfl
@[simp] theorem State.storeByte_clk (s : State) (a : Nat) (b : Byte) : (s.storeByte a b).clk = s.clk := by
  unfold State.storeByte; split <;> rfl
@[simp] theorem State.storeByte_reservation (s : State) (a : Nat) (b : Byte) :
    (s.storeByte a b).reservation = s.reservation := by
  unfold State.storeByte; split <;> rfl
@[simp] theorem State.storeByte_platform (s : State) (a : Nat) (b : Byte) :
    (s.storeByte a b).platform = s.platform := by
  unfold State.storeByte; split <;> rfl
@[simp] theorem State.storeByte_pins (s : State) (a : Nat) (b : Byte) : (s.storeByte a b).pins = s.pins := by
  unfold State.storeByte; split <;> rfl
@[simp] theorem State.storeByte_inputs (s : State) (a : Nat) (b : Byte) : (s.storeByte a b).inputs = s.inputs := by
  unfold State.storeByte; split <;> rfl
@[simp] theorem State.storeByte_nmiEdges (s : State) (a : Nat) (b : Byte) : (s.storeByte a b).nmiEdges =
    s.nmiEdges := by
  unfold State.storeByte; split <;> rfl
@[simp] theorem State.storeByte_immPrefix (s : State) (a : Nat) (b : Byte) :
    (s.storeByte a b).immPrefix = s.immPrefix := by
  unfold State.storeByte; split <;> rfl
@[simp] theorem State.storeByte_progress (s : State) (a : Nat) (b : Byte) :
    (s.storeByte a b).progress = s.progress := by
  unfold State.storeByte; split <;> rfl
@[simp] theorem State.storeByte_clock (s : State) (a : Nat) (b : Byte) : (s.storeByte a b).clock = s.clock := by
  unfold State.storeByte; split <;> rfl

/-! ### storeBytes and storeValue -/

@[simp] theorem State.storeBytes_regs (s : State) (a : Nat) (bs : List Byte) : (s.storeBytes a bs).regs = s.regs := by
  induction bs generalizing s a with
  | nil => rfl
  | cons b bs ih => simp [State.storeBytes, ih]
@[simp] theorem State.storeBytes_code (s : State) (a : Nat) (bs : List Byte) : (s.storeBytes a bs).code = s.code := by
  induction bs generalizing s a with
  | nil => rfl
  | cons b bs ih => simp [State.storeBytes, ih]
@[simp] theorem State.storeBytes_c12Used (s : State) (a : Nat) (bs : List Byte) :
    (s.storeBytes a bs).c12Used = s.c12Used := by
  induction bs generalizing s a with
  | nil => rfl
  | cons b bs ih => simp [State.storeBytes, ih]
@[simp] theorem State.storeBytes_pc (s : State) (a : Nat) (bs : List Byte) : (s.storeBytes a bs).pc = s.pc := by
  induction bs generalizing s a with
  | nil => rfl
  | cons b bs ih => simp [State.storeBytes, ih]
@[simp] theorem State.storeBytes_preds (s : State) (a : Nat) (bs : List Byte) :
    (s.storeBytes a bs).preds = s.preds := by
  induction bs generalizing s a with
  | nil => rfl
  | cons b bs ih => simp [State.storeBytes, ih]
@[simp] theorem State.storeBytes_segs (s : State) (a : Nat) (bs : List Byte) : (s.storeBytes a bs).segs = s.segs := by
  induction bs generalizing s a with
  | nil => rfl
  | cons b bs ih => simp [State.storeBytes, ih]
@[simp] theorem State.storeBytes_sr (s : State) (a : Nat) (bs : List Byte) : (s.storeBytes a bs).sr = s.sr := by
  induction bs generalizing s a with
  | nil => rfl
  | cons b bs ih => simp [State.storeBytes, ih]
@[simp] theorem State.storeBytes_exl (s : State) (a : Nat) (bs : List Byte) : (s.storeBytes a bs).exl = s.exl := by
  induction bs generalizing s a with
  | nil => rfl
  | cons b bs ih => simp [State.storeBytes, ih]
@[simp] theorem State.storeBytes_hwi (s : State) (a : Nat) (bs : List Byte) : (s.storeBytes a bs).hwi = s.hwi := by
  induction bs generalizing s a with
  | nil => rfl
  | cons b bs ih => simp [State.storeBytes, ih]
@[simp] theorem State.storeBytes_lc (s : State) (a : Nat) (bs : List Byte) : (s.storeBytes a bs).lc = s.lc := by
  induction bs generalizing s a with
  | nil => rfl
  | cons b bs ih => simp [State.storeBytes, ih]
@[simp] theorem State.storeBytes_asid (s : State) (a : Nat) (bs : List Byte) : (s.storeBytes a bs).asid = s.asid := by
  induction bs generalizing s a with
  | nil => rfl
  | cons b bs ih => simp [State.storeBytes, ih]
@[simp] theorem State.storeBytes_exc (s : State) (a : Nat) (bs : List Byte) : (s.storeBytes a bs).exc = s.exc := by
  induction bs generalizing s a with
  | nil => rfl
  | cons b bs ih => simp [State.storeBytes, ih]
@[simp] theorem State.storeBytes_bir (s : State) (a : Nat) (bs : List Byte) : (s.storeBytes a bs).bir = s.bir := by
  induction bs generalizing s a with
  | nil => rfl
  | cons b bs ih => simp [State.storeBytes, ih]
@[simp] theorem State.storeBytes_tick (s : State) (a : Nat) (bs : List Byte) : (s.storeBytes a bs).tick = s.tick := by
  induction bs generalizing s a with
  | nil => rfl
  | cons b bs ih => simp [State.storeBytes, ih]
@[simp] theorem State.storeBytes_dbg (s : State) (a : Nat) (bs : List Byte) : (s.storeBytes a bs).dbg = s.dbg := by
  induction bs generalizing s a with
  | nil => rfl
  | cons b bs ih => simp [State.storeBytes, ih]
@[simp] theorem State.storeBytes_tlb (s : State) (a : Nat) (bs : List Byte) : (s.storeBytes a bs).tlb = s.tlb := by
  induction bs generalizing s a with
  | nil => rfl
  | cons b bs ih => simp [State.storeBytes, ih]
@[simp] theorem State.storeBytes_clk (s : State) (a : Nat) (bs : List Byte) : (s.storeBytes a bs).clk = s.clk := by
  induction bs generalizing s a with
  | nil => rfl
  | cons b bs ih => simp [State.storeBytes, ih]
@[simp] theorem State.storeBytes_reservation (s : State) (a : Nat) (bs : List Byte) :
    (s.storeBytes a bs).reservation = s.reservation := by
  induction bs generalizing s a with
  | nil => rfl
  | cons b bs ih => simp [State.storeBytes, ih]
@[simp] theorem State.storeBytes_platform (s : State) (a : Nat) (bs : List Byte) :
    (s.storeBytes a bs).platform = s.platform := by
  induction bs generalizing s a with
  | nil => rfl
  | cons b bs ih => simp [State.storeBytes, ih]
@[simp] theorem State.storeBytes_pins (s : State) (a : Nat) (bs : List Byte) : (s.storeBytes a bs).pins = s.pins := by
  induction bs generalizing s a with
  | nil => rfl
  | cons b bs ih => simp [State.storeBytes, ih]
@[simp] theorem State.storeBytes_inputs (s : State) (a : Nat) (bs : List Byte) :
    (s.storeBytes a bs).inputs = s.inputs := by
  induction bs generalizing s a with
  | nil => rfl
  | cons b bs ih => simp [State.storeBytes, ih]
@[simp] theorem State.storeBytes_nmiEdges (s : State) (a : Nat) (bs : List Byte) :
    (s.storeBytes a bs).nmiEdges = s.nmiEdges := by
  induction bs generalizing s a with
  | nil => rfl
  | cons b bs ih => simp [State.storeBytes, ih]
@[simp] theorem State.storeBytes_immPrefix (s : State) (a : Nat) (bs : List Byte) :
    (s.storeBytes a bs).immPrefix = s.immPrefix := by
  induction bs generalizing s a with
  | nil => rfl
  | cons b bs ih => simp [State.storeBytes, ih]
@[simp] theorem State.storeBytes_progress (s : State) (a : Nat) (bs : List Byte) :
    (s.storeBytes a bs).progress = s.progress := by
  induction bs generalizing s a with
  | nil => rfl
  | cons b bs ih => simp [State.storeBytes, ih]
@[simp] theorem State.storeBytes_clock (s : State) (a : Nat) (bs : List Byte) :
    (s.storeBytes a bs).clock = s.clock := by
  induction bs generalizing s a with
  | nil => rfl
  | cons b bs ih => simp [State.storeBytes, ih]

@[simp] theorem State.storeValue_regs (s : State) (p : Phys) (n : Nat) (v : Word) :
    (s.storeValue p n v).regs = s.regs := by
  simp [State.storeValue]
@[simp] theorem State.storeValue_code (s : State) (p : Phys) (n : Nat) (v : Word) :
    (s.storeValue p n v).code = s.code := by
  simp [State.storeValue]
@[simp] theorem State.storeValue_c12Used (s : State) (p : Phys) (n : Nat) (v : Word) :
    (s.storeValue p n v).c12Used = s.c12Used := by
  simp [State.storeValue]
@[simp] theorem State.storeValue_pc (s : State) (p : Phys) (n : Nat) (v : Word) : (s.storeValue p n v).pc = s.pc := by
  simp [State.storeValue]
@[simp] theorem State.storeValue_preds (s : State) (p : Phys) (n : Nat) (v : Word) :
    (s.storeValue p n v).preds = s.preds := by
  simp [State.storeValue]
@[simp] theorem State.storeValue_segs (s : State) (p : Phys) (n : Nat) (v : Word) :
    (s.storeValue p n v).segs = s.segs := by
  simp [State.storeValue]
@[simp] theorem State.storeValue_sr (s : State) (p : Phys) (n : Nat) (v : Word) : (s.storeValue p n v).sr = s.sr := by
  simp [State.storeValue]
@[simp] theorem State.storeValue_exl (s : State) (p : Phys) (n : Nat) (v : Word) :
    (s.storeValue p n v).exl = s.exl := by
  simp [State.storeValue]
@[simp] theorem State.storeValue_hwi (s : State) (p : Phys) (n : Nat) (v : Word) :
    (s.storeValue p n v).hwi = s.hwi := by
  simp [State.storeValue]
@[simp] theorem State.storeValue_lc (s : State) (p : Phys) (n : Nat) (v : Word) : (s.storeValue p n v).lc = s.lc := by
  simp [State.storeValue]
@[simp] theorem State.storeValue_asid (s : State) (p : Phys) (n : Nat) (v : Word) :
    (s.storeValue p n v).asid = s.asid := by
  simp [State.storeValue]
@[simp] theorem State.storeValue_exc (s : State) (p : Phys) (n : Nat) (v : Word) :
    (s.storeValue p n v).exc = s.exc := by
  simp [State.storeValue]
@[simp] theorem State.storeValue_bir (s : State) (p : Phys) (n : Nat) (v : Word) :
    (s.storeValue p n v).bir = s.bir := by
  simp [State.storeValue]
@[simp] theorem State.storeValue_tick (s : State) (p : Phys) (n : Nat) (v : Word) :
    (s.storeValue p n v).tick = s.tick := by
  simp [State.storeValue]
@[simp] theorem State.storeValue_dbg (s : State) (p : Phys) (n : Nat) (v : Word) :
    (s.storeValue p n v).dbg = s.dbg := by
  simp [State.storeValue]
@[simp] theorem State.storeValue_clk (s : State) (p : Phys) (n : Nat) (v : Word) :
    (s.storeValue p n v).clk = s.clk := by
  simp [State.storeValue]
@[simp] theorem State.storeValue_reservation (s : State) (p : Phys) (n : Nat) (v : Word) :
    (s.storeValue p n v).reservation = s.reservation := by
  simp [State.storeValue]
@[simp] theorem State.storeValue_platform (s : State) (p : Phys) (n : Nat) (v : Word) :
    (s.storeValue p n v).platform = s.platform := by
  simp [State.storeValue]
@[simp] theorem State.storeValue_pins (s : State) (p : Phys) (n : Nat) (v : Word) :
    (s.storeValue p n v).pins = s.pins := by
  simp [State.storeValue]
@[simp] theorem State.storeValue_inputs (s : State) (p : Phys) (n : Nat) (v : Word) :
    (s.storeValue p n v).inputs = s.inputs := by
  simp [State.storeValue]
@[simp] theorem State.storeValue_nmiEdges (s : State) (p : Phys) (n : Nat) (v : Word) :
    (s.storeValue p n v).nmiEdges = s.nmiEdges := by
  simp [State.storeValue]
@[simp] theorem State.storeValue_immPrefix (s : State) (p : Phys) (n : Nat) (v : Word) :
    (s.storeValue p n v).immPrefix = s.immPrefix := by
  simp [State.storeValue]
@[simp] theorem State.storeValue_progress (s : State) (p : Phys) (n : Nat) (v : Word) :
    (s.storeValue p n v).progress = s.progress := by
  simp [State.storeValue]
@[simp] theorem State.storeValue_clock (s : State) (p : Phys) (n : Nat) (v : Word) :
    (s.storeValue p n v).clock = s.clock := by
  simp [State.storeValue]

/-! ### Reads after writes -/

@[simp] theorem State.setPc_pc (s : State) (t : Word) : (s.setPc t).pc = t := rfl

@[simp] theorem State.reg_zero (s : State) : s.reg 0 = 0 := by simp [State.reg]

/-- Register `r` after a write of `v` to register `k`. -/
theorem State.reg_setReg (s : State) (k r : Reg) (v : Word) :
    (s.setReg k v).reg r = if r = k ∧ k ≠ 0 then v else s.reg r := by
  unfold State.reg State.setReg
  by_cases hk : k = 0
  · rw [if_pos hk, if_neg (c := r = k ∧ k ≠ 0) fun h => h.2 hk]
  · rw [if_neg hk]
    by_cases hr : r = 0
    · rw [if_pos hr, if_pos hr, if_neg fun h => hk (h.1.symm.trans hr)]
    · rw [if_neg hr, if_neg hr]
      by_cases h : r = k
      · subst h; rw [if_pos ⟨rfl, hr⟩]; exact Vector.getElem_set_self _
      · rw [if_neg fun e => h e.1]
        exact Vector.getElem_set_ne k.isLt r.isLt fun e => h (BitVec.eq_of_toNat_eq e.symm)

@[simp] theorem State.reg_congr_setPc (s : State) (t : Word) (r : Reg) : (s.setPc t).reg r = s.reg r := rfl

@[simp] theorem State.pred_setPred_same (s : State) (p : PredReg) (v : BitVec 4) : (s.setPred p v).pred p = v := by
  simp [State.pred, State.setPred]

theorem State.pred_setPred_other (s : State) (p r : PredReg) (v : BitVec 4) (h : r ≠ p) :
    (s.setPred p v).pred r = s.pred r :=
  Vector.getElem_set_ne p.isLt r.isLt fun e => h (BitVec.eq_of_toNat_eq e.symm)

/-- Code address register `r` after a write of `v` to `c`. -/
theorem State.codeReg_setCodeReg (s : State) (npc : Word) (c r : CodeReg) (v : Word) :
    (s.setCodeReg c v).codeReg npc r = if r = c ∧ c ≠ 0 ∧ c ≠ 15 then v else s.codeReg npc r := by
  unfold State.codeReg State.setCodeReg
  by_cases hc : c = 0 ∨ c = 15
  · rw [if_pos hc, if_neg (c := r = c ∧ c ≠ 0 ∧ c ≠ 15) fun h => hc.elim h.2.1 h.2.2]
  · have h0 : c ≠ 0 := fun h => hc (.inl h)
    have h15 : c ≠ 15 := fun h => hc (.inr h)
    rw [if_neg hc]
    by_cases hr0 : r = 0
    · rw [if_pos hr0, if_pos hr0, if_neg fun h => h0 (h.1.symm.trans hr0)]
    · rw [if_neg hr0, if_neg hr0]
      by_cases hr : r = 15
      · rw [if_pos hr, if_pos hr, if_neg fun h => h15 (h.1.symm.trans hr)]
      · rw [if_neg hr, if_neg hr]
        by_cases h : r = c
        · subst h; rw [if_pos ⟨rfl, h0, h15⟩]; exact Vector.getElem_set_self _
        · rw [if_neg fun e => h e.1]
          exact Vector.getElem_set_ne c.isLt r.isLt fun e => h (BitVec.eq_of_toNat_eq e.symm)

/-- The mode and the predicate tests look at no program counter and no register. -/
@[simp] theorem State.kernel_setPc (s : State) (t : Word) : (s.setPc t).kernel = s.kernel := rfl

@[simp] theorem State.kernel_setReg (s : State) (r : Reg) (v : Word) : (s.setReg r v).kernel = s.kernel := by
  simp [State.kernel]

@[simp] theorem State.kernel_setCodeReg (s : State) (c : CodeReg) (v : Word) :
    (s.setCodeReg c v).kernel = s.kernel := by
  simp [State.kernel]

@[simp] theorem State.kernel_setPred (s : State) (p : PredReg) (v : BitVec 4) :
    (s.setPred p v).kernel = s.kernel := rfl

end Sys2Proof.Machine
end

