-- ==== Sys2Proof/Laws/Memory.lean ====
section
/-! SUPPORT. Memory: a read after a write, and the canonical form that every operation keeps. -/

namespace Sys2Proof.Machine

/-! ### One byte -/

/-- A byte at or below an address that all entries lie above is not listed. -/
theorem Memory.read_of_above (m : Memory) (k b : Nat) (h : Memory.above k m = true) (hb : b ≤ k) :
    m.read b = unlistedByte := by
  induction m with
  | nil => rfl
  | cons c m ih =>
    simp only [Memory.above, List.all_cons, Bool.and_eq_true, decide_eq_true_eq] at h
    have hne : c.1 ≠ b := by omega
    rw [Memory.read, if_neg hne]
    exact ih h.2

theorem Memory.above_mono (m : Memory) (j k : Nat) (h : Memory.above k m = true) (hj : j ≤ k) :
    Memory.above j m = true := by
  simp only [Memory.above, List.all_eq_true, decide_eq_true_eq] at *
  intro c hc; have := h c hc; omega

theorem Memory.above_erase (m : Memory) (k a : Nat) (h : Memory.above k m = true) :
    Memory.above k (m.erase a) = true := by
  induction m with
  | nil => rfl
  | cons c m ih =>
    simp only [Memory.above, List.all_cons, Bool.and_eq_true] at h
    rw [Memory.erase]
    split
    · exact h.2
    · simp only [Memory.above, List.all_cons, Bool.and_eq_true]; exact ⟨h.1, ih h.2⟩

theorem Memory.above_insert (m : Memory) (k a : Nat) (v : Byte) (h : Memory.above k m = true) (ha : k < a) :
    Memory.above k (m.insert a v) = true := by
  induction m with
  | nil => simp [Memory.insert, Memory.above, ha]
  | cons c m ih =>
    have ha' : decide (k < a) = true := by simpa using ha
    have h' := h
    simp only [Memory.above, List.all_cons, Bool.and_eq_true] at h
    rw [Memory.insert]
    split
    · rw [Memory.above, List.all_cons, Bool.and_eq_true]; exact ⟨ha', h'⟩
    · split
      · rw [Memory.above, List.all_cons, Bool.and_eq_true]; exact ⟨ha', h.2⟩
      · rw [Memory.above, List.all_cons, Bool.and_eq_true]; exact ⟨h.1, ih h.2⟩

theorem Memory.read_insert (m : Memory) (a b : Nat) (v : Byte) :
    (m.insert a v).read b = if b = a then v else m.read b := by
  induction m with
  | nil =>
    by_cases h : b = a
    · simp [Memory.insert, Memory.read, h]
    · simp [Memory.insert, Memory.read, h, Ne.symm h]
  | cons c m ih =>
    rw [Memory.insert]
    split
    · by_cases h : b = a
      · simp [Memory.read, h]
      · simp [Memory.read, h, Ne.symm h]
    · split
      · rename_i h1 h2
        by_cases h : b = a
        · simp [Memory.read, h]
        · have : c.1 ≠ b := by omega
          simp [Memory.read, h, Ne.symm h, this]
      · rename_i h1 h2
        by_cases hc : c.1 = b
        · have : b ≠ a := by omega
          simp [Memory.read, hc, this]
        · simp [Memory.read, hc, ih]

theorem Memory.read_erase (m : Memory) (a b : Nat) (h : m.wf = true) :
    (m.erase a).read b = if b = a then unlistedByte else m.read b := by
  induction m with
  | nil => simp [Memory.erase, Memory.read]
  | cons c m ih =>
    simp only [Memory.wf, Bool.and_eq_true] at h
    rw [Memory.erase]
    split
    · rename_i hc
      by_cases hb : b = a
      · rw [if_pos hb, hb, ← hc]; exact read_of_above m _ _ h.1.2 (Nat.le_refl _)
      · have : c.1 ≠ b := by omega
        simp [Memory.read, hb, this]
    · rename_i hc
      by_cases hcb : c.1 = b
      · have : b ≠ a := by omega
        simp [Memory.read, hcb, this]
      · simp [Memory.read, hcb, ih h.2]

/-- A byte read after a byte written. -/
theorem Memory.read_write (m : Memory) (a b : Nat) (v : Byte) (h : m.wf = true) :
    (m.write a v).read b = if b = a then v else m.read b := by
  unfold Memory.write
  split
  · rename_i hv; rw [Memory.read_erase m a b h, hv]
  · exact Memory.read_insert m a b v

theorem Memory.wf_erase (m : Memory) (a : Nat) (h : m.wf = true) : (m.erase a).wf = true := by
  induction m with
  | nil => rfl
  | cons c m ih =>
    simp only [Memory.wf, Bool.and_eq_true] at h
    rw [Memory.erase]
    split
    · exact h.2
    · simp only [Memory.wf, Bool.and_eq_true]; exact ⟨⟨h.1.1, Memory.above_erase m _ a h.1.2⟩, ih h.2⟩

theorem Memory.wf_insert (m : Memory) (a : Nat) (v : Byte) (h : m.wf = true) (hv : v ≠ unlistedByte) :
    (m.insert a v).wf = true := by
  induction m with
  | nil => simp [Memory.insert, Memory.wf, Memory.above, hv]
  | cons c m ih =>
    have h' := h
    simp only [Memory.wf, Bool.and_eq_true] at h
    have hv' : (v != unlistedByte) = true := by simpa using hv
    rw [Memory.insert]
    split
    · rename_i hlt
      have : Memory.above a ((c.1, c.2) :: m) = true := by
        simp only [Memory.above, List.all_cons, Bool.and_eq_true, decide_eq_true_eq]
        exact ⟨hlt, Memory.above_mono m a c.1 h.1.2 (Nat.le_of_lt hlt)⟩
      rw [Memory.wf, hv', this, Bool.true_and, Bool.true_and]; exact h'
    · split
      · rename_i _ hc
        rw [Memory.wf, hv', Bool.true_and, Bool.and_eq_true]; exact ⟨hc ▸ h.1.2, h.2⟩
      · rename_i h1 h2
        simp only [Memory.wf, Bool.and_eq_true]
        exact ⟨⟨h.1.1, Memory.above_insert m _ a v h.1.2 (by omega)⟩, ih h.2⟩

/-- A write keeps the canonical form. -/
theorem Memory.wf_write (m : Memory) (a : Nat) (v : Byte) (h : m.wf = true) : (m.write a v).wf = true := by
  unfold Memory.write
  split
  · exact Memory.wf_erase m a h
  · rename_i hv; exact Memory.wf_insert m a v h hv

/-- Writes of a list keep the canonical form. -/
theorem Memory.wf_writeList (m : Memory) (a : Nat) (bs : List Byte) (h : m.wf = true) :
    (m.writeList a bs).wf = true := by
  induction bs generalizing m a with
  | nil => exact h
  | cons b bs ih => exact ih _ _ (Memory.wf_write m a b h)

/-- Memory after reset has the canonical form. -/
theorem State.reset_mem_wf : State.reset.mem.wf = true := rfl

/-! ### Stores -/

theorem State.isDevice_storeByte (s : State) (a : Nat) (b : Byte) (x : Nat) :
    (s.storeByte a b).isDevice x = s.isDevice x := by
  simp [State.isDevice]

/-- A stored byte keeps the canonical form. -/
theorem State.storeByte_wf (s : State) (a : Nat) (b : Byte) (h : s.mem.wf = true) :
    (s.storeByte a b).mem.wf = true := by
  unfold State.storeByte
  split
  · exact h
  · exact Memory.wf_write _ _ _ h

/-- Stored bytes keep the canonical form. -/
theorem State.storeBytes_wf (s : State) (a : Nat) (bs : List Byte) (h : s.mem.wf = true) :
    (s.storeBytes a bs).mem.wf = true := by
  induction bs generalizing s a with
  | nil => exact h
  | cons b bs ih => exact ih _ _ (State.storeByte_wf s a b h)

@[simp] theorem State.storeValue_mem (s : State) (p : Phys) (n : Nat) (v : Word) :
    (s.storeValue p n v).mem = (s.storeBytes p.pa.toNat (bytesOfWord n v)).mem := by
  simp [State.storeValue]

/-- A stored value keeps the canonical form. -/
theorem State.storeValue_wf (s : State) (p : Phys) (n : Nat) (v : Word) (h : s.mem.wf = true) :
    (s.storeValue p n v).mem.wf = true := by
  rw [State.storeValue_mem]; exact State.storeBytes_wf s _ _ h

/-- What every byte reads as after one is stored. -/
theorem State.read_storeByte (s : State) (a x : Nat) (b : Byte) (h : s.mem.wf = true) :
    (s.storeByte a b).mem.read x = if x = a ∧ s.isDevice a = false then b else s.mem.read x := by
  unfold State.storeByte
  by_cases hd : s.isDevice a = true
  · simp [hd]
  · simp only [hd, if_false, Bool.false_eq_true]
    rw [Memory.read_write _ _ _ _ h]
    simp

/-- A byte outside the stored range reads as before; inside it, as the byte stored there, where no device answers. -/
theorem State.read_storeBytes (s : State) (a x : Nat) (bs : List Byte) (h : s.mem.wf = true) :
    (s.storeBytes a bs).mem.read x =
      if h : (a ≤ x ∧ x < a + bs.length) then (if s.isDevice x then s.mem.read x else bs[x - a]'(by omega))
      else s.mem.read x := by
  induction bs generalizing s a with
  | nil =>
    have : ¬(a ≤ x ∧ x < a + ([] : List Byte).length) := by simp
    rw [dif_neg this]; rfl
  | cons b bs ih =>
    rw [State.storeBytes, ih _ _ (State.storeByte_wf s a b h)]
    simp only [State.isDevice_storeByte, List.length_cons]
    have hb := s.read_storeByte a x b h
    by_cases hx : x = a
    · subst hx
      rw [dif_neg (by omega), dif_pos (by omega), hb]
      by_cases hd : s.isDevice x = true <;> simp [hd]
    · have hb' : (s.storeByte a b).mem.read x = s.mem.read x := by rw [hb, if_neg fun e => hx e.1]
      by_cases hr : a + 1 ≤ x ∧ x < a + 1 + bs.length
      · rw [dif_pos hr, dif_pos (by omega), hb']
        have : x - a = (x - (a + 1)) + 1 := by omega
        simp [this]
      · rw [dif_neg hr, dif_neg (by omega), hb']

theorem mem_noteStale {l : List StaleByte} {a : Nat} {old new : Byte} {e : StaleByte} :
    e ∈ noteStale l a old new ↔ e ∈ l ∨ (old ≠ new ∧ e = { addr := a, old := old, invalidated := false }) := by
  unfold noteStale
  by_cases h : old = new
  · simp [h]
  · simp only [h, if_false]
    split
    · rename_i hc
      simp only [List.contains_eq_mem, decide_eq_true_eq] at hc
      exact ⟨.inl, fun x => x.elim id fun x => x.2 ▸ hc⟩
    · simp [or_comm, h]

/-- What fetches may still see after one byte is stored (20_memory.md R117; log 19). -/
theorem State.mem_storeByte_stale (s : State) (a : Nat) (b : Byte) (e : StaleByte) :
    e ∈ (s.storeByte a b).stale ↔ e ∈ s.stale ∨
      (s.isDevice a = false ∧ s.mem.read a ≠ b ∧ e = { addr := a, old := s.mem.read a, invalidated := false }) := by
  unfold State.storeByte
  split
  · rename_i h; simp [h]
  · rename_i h; simp [mem_noteStale, h]

/-- What fetches may still see after bytes are stored: the bytes overwritten with another value, and no other. -/
theorem State.mem_storeBytes_stale (s : State) (a : Nat) (bs : List Byte) (e : StaleByte) (h : s.mem.wf = true) :
    e ∈ (s.storeBytes a bs).stale ↔ e ∈ s.stale ∨ ∃ k, ∃ hk : k < bs.length, s.isDevice (a + k) = false ∧
      s.mem.read (a + k) ≠ bs[k] ∧ e = { addr := a + k, old := s.mem.read (a + k), invalidated := false } := by
  induction bs generalizing s a with
  | nil => simp [State.storeBytes]
  | cons b bs ih =>
    have hr : ∀ k, (s.storeByte a b).mem.read (a + 1 + k) = s.mem.read (a + 1 + k) := fun k => by
      rw [State.read_storeByte _ _ _ _ h, if_neg]; omega
    rw [State.storeBytes, ih _ _ (State.storeByte_wf s a b h), State.mem_storeByte_stale, or_assoc]
    simp only [State.isDevice_storeByte, hr]
    refine or_congr_right ⟨?_, ?_⟩
    · rintro (⟨h1, h2, h3⟩ | ⟨k, hk, h1, h2, h3⟩)
      · exact ⟨0, by simp, by simpa using h1, by simpa using h2, by simpa using h3⟩
      · have e1 : a + (k + 1) = a + 1 + k := by omega
        exact ⟨k + 1, by simpa using hk, by rw [e1]; exact h1, by rw [e1]; exact h2, by rw [e1]; exact h3⟩
    · rintro ⟨k, hk, h1, h2, h3⟩
      cases k with
      | zero => exact .inl ⟨h1, h2, h3⟩
      | succ k =>
        have e1 : a + (k + 1) = a + 1 + k := by omega
        rw [e1] at h1 h2 h3
        exact .inr ⟨k, by simpa using hk, h1, h2, h3⟩

theorem littleOfWord_length (n : Nat) (v : Word) : (littleOfWord n v).length = n := by
  induction n generalizing v with
  | zero => rfl
  | succ n ih => simp [littleOfWord, ih]

theorem bytesOfWord_length (n : Nat) (v : Word) : (bytesOfWord n v).length = n := littleOfWord_length n v

/-- Every byte outside the `n` stored ones reads as before. -/
theorem State.read_storeValue_outside (s : State) (p : Phys) (n : Nat) (v : Word) (x : Nat) (h : s.mem.wf = true)
    (hx : x < p.pa.toNat ∨ p.pa.toNat + n ≤ x) : (s.storeValue p n v).mem.read x = s.mem.read x := by
  rw [State.storeValue_mem, State.read_storeBytes _ _ _ _ h, dif_neg]
  rw [bytesOfWord_length]; omega

end Sys2Proof.Machine
end

