-- ==== Sys2Proof/Laws/Ops.lean ====
section
/-! SUPPORT. What each shared operation can do, said once: a lemma that completes it under the hypotheses its claims
use, and a lemma that takes its next state apart. -/

namespace Sys2Proof.Machine

/-! ### Predicate and privilege -/

theorem guarded_executes {q : Pred} {len : Nat} {rs : List Reg} {s : State} {k : Word → Result}
    (h : s.Executes q rs) : guarded q len rs s k = k (s.npc len) := by
  simp [guarded, h.holds, h.allows]

theorem guarded_skips {q : Pred} {len : Nat} {rs : List Reg} {s : State} {k : Word → Result}
    (h : s.holds q = false) : guarded q len rs s k = .next (s.setPc (s.npc len)) := by
  simp [guarded, h]

theorem guarded_refuses {q : Pred} {len : Nat} {rs : List Reg} {s : State} {k : Word → Result}
    (h : s.holds q = true) (ha : s.allows rs = false) : guarded q len rs s k = .refused .kernelOnlyRegister := by
  simp [guarded, h, ha]

/-- A next state of a predicated instruction: it was skipped, or it executed. -/
theorem guarded_next {q : Pred} {len : Nat} {rs : List Reg} {s t : State} {k : Word → Result}
    (h : guarded q len rs s k = .next t) :
    (s.holds q = false ∧ t = s.setPc (s.npc len)) ∨ (s.Executes q rs ∧ k (s.npc len) = .next t) := by
  unfold guarded at h
  split at h
  · split at h
    · exact .inr ⟨⟨‹_›, ‹_›⟩, h⟩
    · cases h
  · rename_i hq
    exact .inl ⟨by simpa using hq, by cases h; rfl⟩

theorem privileged_kernel {s : State} {k : Result} (h : s.kernel = true) : privileged s k = k := by
  simp [privileged, h]

theorem privileged_application {s : State} {k : Result} (h : s.kernel = false) :
    privileged s k = raiseException vecPrivilege s := by simp [privileged, h]

theorem executes_nil {s : State} {q : Pred} (h : s.holds q = true) : s.Executes q [] :=
  ⟨h, by simp [State.allows]⟩

/-! ### Exceptions -/

theorem vectorAddress_inArea {s : State} {v : BitVec 8} (h : s.vectorInArea v) :
    s.vectorAddress v = some (s.vectorBase + 16 * zext v) := by
  unfold State.vectorInArea at h
  simp only [State.vectorAddress]
  exact if_pos h

theorem vectorAddress_outside {s : State} {v : BitVec 8} (h : ¬s.vectorInArea v) : s.vectorAddress v = none := by
  unfold State.vectorInArea at h
  simp only [State.vectorAddress]
  exact if_neg h

/-- An exception's entry is taken or refused for its vector's address; nothing else can happen. -/
theorem raiseException_next {v : BitVec 8} {s t : State} (h : raiseException v s = .next t) :
    s.vectorInArea v ∧ t = { s.setCodeReg (linkOf v) s.pc with
      exl := levelUp s.exl, exc := s.causeValue v, pc := s.vectorBase + 16 * zext v, progress := .raised } := by
  by_cases hv : s.vectorInArea v
  · rw [raiseException, vectorAddress_inArea hv] at h
    cases h; exact ⟨hv, rfl⟩
  · rw [raiseException, vectorAddress_outside hv] at h; cases h

theorem levelUp_toNat (n : BitVec 8) : (levelUp n).toNat = min (n.toNat + 1) 255 := by
  unfold levelUp; split
  · subst_vars; rfl
  · rename_i h
    have : n.toNat ≠ 255 := fun e => h (by apply BitVec.eq_of_toNat_eq; simpa using e)
    have h1 := n.isLt
    have h2 : (n + 1).toNat = (n.toNat + 1) % 256 := rfl
    omega

theorem linkOf_debug : linkOf 243 = 11 := rfl

theorem linkOf_ne {v : BitVec 8} : linkOf v = if v = 243 then 11 else 13 := rfl

theorem setCodeReg_rest (s : State) (c : CodeReg) (v : Word) : { s.setCodeReg c v with code := s.code } = s := by
  unfold State.setCodeReg; split <;> rfl

/-- The entry that a raised exception takes (60_exceptions.md R568, R589). -/
theorem raiseException_raises {v : BitVec 8} {s : State} (h : s.vectorInArea v) :
    raises (raiseException v s) s v s.pc := by
  refine ⟨_, by rw [raiseException, vectorAddress_inArea h], ?_⟩
  constructor
  · intro n c
    have h13 : linkOf v ≠ 0 ∧ linkOf v ≠ 15 := by unfold linkOf; split <;> decide
    have e := State.codeReg_setCodeReg s n (linkOf v) c s.pc
    have e2 : State.codeReg { s.setCodeReg (linkOf v) s.pc with
        exl := levelUp s.exl, exc := s.causeValue v, pc := s.vectorBase + 16 * zext v, progress := .raised } n c =
        (s.setCodeReg (linkOf v) s.pc).codeReg n c := rfl
    rw [e2, e]
    by_cases hc : c = linkOf v
    · rw [if_pos ⟨hc, h13⟩, if_pos (by rw [hc]; rfl)]
    · rw [if_neg fun x => hc x.1, if_neg (by intro x; exact hc (by rw [x]; rfl))]
  · exact levelUp_toNat s.exl
  · intro hx; simp [State.causeValue, hx]
  · rfl
  · rfl
  · intro a; simp
  · unfold State.setCodeReg; split <;> rfl

/-! ### Results into one register -/

theorem finishReg_writes (s : State) (rt : Reg) (v npc : Word) :
    WritesReg s ((s.setReg rt v).setPc npc) rt v npc where
  target := by
    by_cases h : rt = 0
    · subst h; rw [State.reg_zero, if_pos rfl]
    · rw [State.reg_congr_setPc, State.reg_setReg, if_pos ⟨rfl, h⟩, if_neg h]
  others r hr := by rw [State.reg_congr_setPc, State.reg_setReg, if_neg fun e => hr e.1]
  pc := rfl
  memory a := by simp
  rest := by unfold State.setReg State.setPc; split <;> rfl

theorem finishReg_completes (s : State) (len : Nat) (rt : Reg) (v : Word) :
    completesReg (finishReg rt v (s.npc len) s) s len rt v := ⟨_, rfl, finishReg_writes s rt v _⟩

theorem writeReg_completes {q : Pred} {len : Nat} {named : List Reg} {rt : Reg} {v : Word} {s : State}
    (h : s.Executes q named) : completesReg (writeReg q len named rt v s) s len rt v := by
  rw [writeReg, guarded_executes h]; exact finishReg_completes s len rt v

theorem setPred_writes (s : State) (pt : PredReg) (v : BitVec 4) (npc : Word) :
    WritesPred s ((s.setPred pt v).setPc npc) pt v npc where
  target := by simp [State.pred, State.setPred, State.setPc]
  others r hr := by
    have : pt.toNat ≠ r.toNat := fun e => hr (BitVec.eq_of_toNat_eq e.symm)
    simp [State.pred, State.setPred, State.setPc, Vector.getElem_set_ne, this]
  pc := rfl
  memory a := rfl
  rest := rfl

theorem writePred_completes {q : Pred} {len : Nat} {named : List Reg} {pt : PredReg} {v : BitVec 4} {s : State}
    (h : s.Executes q named) : completesPred (writePred q len named pt v s) s len pt v := by
  rw [writePred, guarded_executes h]; exact ⟨_, rfl, setPred_writes s pt v _⟩

theorem fitsSigned_iff (r : Int) : fitsSigned r = true ↔ -(2 ^ 63) ≤ r ∧ r < 2 ^ 63 := by simp [fitsSigned]

theorem writeExact_completes {q : Pred} {len : Nat} {named : List Reg} {rt : Reg} {r : Int} {s : State}
    (h : s.Executes q named) : completesChecked (writeExact q len named rt r s) s len rt r := by
  unfold completesChecked
  rw [writeExact, guarded_executes h]
  split
  · rw [if_pos ((fitsSigned_iff r).2 ‹_›)]; exact finishReg_completes s len rt _
  · rw [if_neg (mt (fitsSigned_iff r).1 ‹_›)]

theorem setPc_completes (s : State) (t : Word) : completesPc (.next (s.setPc t)) s t :=
  ⟨_, rfl, rfl, fun _ => rfl, rfl⟩

/-! ### Data accesses -/

/-- An access that passes every check of 20_memory.md R91 is the one that reaches its address. -/
theorem dataCheck_ok_iff {s : State} {k : AccessKind} {slot : Nat} {sg : SegReg} {off : Word} {n : Nat} {p : Phys} :
    dataCheck s k slot sg off n = .ok p ↔ s.Reaches k slot sg off n p := by
  constructor
  · intro h
    unfold dataCheck at h
    simp only [ne_eq] at h
    split at h <;> try cases h
    split at h <;> try cases h
    split at h <;> try cases h
    split at h <;> try cases h
    rename_i ha hl hp _ p' ht
    unfold dataPhysCheck at h
    simp only [ne_eq] at h
    split at h <;> try cases h
    split at h <;> try cases h
    rename_i hd hb
    exact ⟨by simpa using ha, by simpa using hl, by simpa using hp, ht, by simpa using hd, by simpa using hb⟩
  · rintro ⟨ha, hl, hp, ht, hd, hb⟩
    simp [dataCheck, dataPhysCheck, ha, hl, hp, ht, hd, hb]

theorem dataCheck_ok {s : State} {k : AccessKind} {slot : Nat} {sg : SegReg} {off : Word} {n : Nat} {p : Phys}
    (h : s.Reaches k slot sg off n p) : dataCheck s k slot sg off n = .ok p := dataCheck_ok_iff.2 h

/-- An access that does not reach its address ends as the check does, whatever was to follow. -/
theorem dataCheck_run_congr {s : State} {k : AccessKind} {slot : Nat} {sg : SegReg} {off : Word} {n : Nat}
    (f g : Phys → Result) (h : ∀ p, ¬s.Reaches k slot sg off n p) :
    (dataCheck s k slot sg off n).run f = (dataCheck s k slot sg off n).run g := by
  cases hc : dataCheck s k slot sg off n with
  | ok p => exact absurd (dataCheck_ok_iff.1 hc) (h p)
  | raise v u => rfl
  | fault x => rfl
  | refuse r => rfl

theorem memRead_reaches {s : State} {slot : Nat} {sg : SegReg} {off : Word} {n : Nat} {p : Phys} {k : Word → Result}
    (h : s.Reaches .load slot sg off n p) : memRead s slot sg off n k = k (s.loadValue slot p n) := by
  rw [memRead, dataCheck_ok h]; rfl

theorem memWrite_reaches {s : State} {slot : Nat} {sg : SegReg} {off : Word} {n : Nat} {v : Word} {p : Phys}
    {k : State → Result} (h : s.Reaches .store slot sg off n p) :
    memWrite s slot sg off n v k = k (s.storeValue p n v) := by
  rw [memWrite, dataCheck_ok h]; rfl

/-- What a check can do when it is run: its value goes on, or its exception is taken. -/
theorem Check.run_next {α : Type} {c : Check α} {k : α → Result} {t : State} (h : c.run k = .next t) :
    (∃ a, c = .ok a ∧ k a = .next t) ∨ ∃ v u, c = .raise v u ∧ raiseException v u = .next t := by
  cases c with
  | ok a => exact .inl ⟨a, rfl, h⟩
  | raise v u => exact .inr ⟨v, u, rfl, h⟩
  | fault f => cases h
  | refuse r => cases h

/-- The state a data access raises from: as it was, or with the miss address or the debug status recorded. -/
theorem dataCheck_raise {s u : State} {k : AccessKind} {slot : Nat} {sg : SegReg} {off : Word} {n : Nat}
    {v : BitVec 8} (h : dataCheck s k slot sg off n = .raise v u) :
    u = s ∨ (∃ va, u = s.recordDataMiss va) ∨ ∃ hits, u = s.setDebugStatus hits := by
  unfold dataCheck at h
  simp only [ne_eq] at h
  split at h
  · cases h
  split at h
  · cases h; exact .inl rfl
  split at h
  · cases h
  split at h
  · cases h
  · cases h
  · cases h; exact .inr (.inl ⟨_, rfl⟩)
  · unfold dataPhysCheck at h
    simp only [ne_eq] at h
    split at h
    · cases h; exact .inr (.inr ⟨_, rfl⟩)
    · split at h
      · cases h; exact .inl rfl
      · cases h

theorem loadReg_completes {q : Pred} {len : Nat} {named : List Reg} {sg : SegReg} {off : Word} {n : Nat}
    {ext : Word → Word} {rt : Reg} {s : State} {p : Phys} (h : s.Executes q named)
    (hr : s.Reaches .load 0 sg off n p) :
    completesReg (loadReg q len named sg off n ext rt s) s len rt (ext (s.loadValue 0 p n)) := by
  rw [loadReg, guarded_executes h]
  split
  · subst_vars
    refine ⟨_, rfl, ?_⟩
    have := finishReg_writes s 0 (ext (s.loadValue 0 p n)) (s.npc len)
    simpa [State.setReg] using this
  · rw [memRead_reaches hr]; exact finishReg_completes s len rt _

theorem loadReg_prefetches {q : Pred} {len : Nat} {named : List Reg} {sg : SegReg} {off : Word} {n : Nat}
    {ext : Word → Word} {s : State} (h : s.Executes q named) :
    loadReg q len named sg off n ext 0 s = .next (s.setPc (s.npc len)) := by
  rw [loadReg, guarded_executes h, if_pos rfl]

/-! ### Stores -/

theorem littleOfWord_get (n : Nat) (v : Word) (k : Nat) (h : k < n) :
    (littleOfWord n v)[k]'(by rw [littleOfWord_length]; exact h) = (v >>> (8 * k)).setWidth 8 := by
  induction n generalizing v k with
  | zero => omega
  | succ n ih =>
    cases k with
    | zero => simp [littleOfWord]
    | succ k =>
      simp only [littleOfWord, List.getElem_cons_succ]
      rw [ih (v >>> 8) k (by omega), ← BitVec.shiftRight_add]
      congr 2; omega

/-- Byte `k` of a stored word, bits 7..0 at the lowest address (20_memory.md R82). -/
theorem State.read_storeValue_inside (s : State) (p : Phys) (n : Nat) (v : Word) (k : Nat) (hw : s.mem.wf = true)
    (hk : k < n) (hd : s.isDevice (p.pa.toNat + k) = false) :
    (s.storeValue p n v).mem.read (p.pa.toNat + k) = (v >>> (8 * k)).setWidth 8 := by
  rw [State.storeValue_mem, State.read_storeBytes _ _ _ _ hw, dif_pos (by rw [bytesOfWord_length]; omega), hd]
  simp only [Bool.false_eq_true, if_false, Nat.add_sub_cancel_left]
  exact littleOfWord_get n v k hk

theorem storeValue_stores (s : State) (p : Phys) (n : Nat) (v : Word) (hw : s.mem.wf = true) :
    StoresBytes s (s.storeValue p n v) p n v where
  stored k hk hd := s.read_storeValue_inside p n v k hw hk hd
  outside a ha := s.read_storeValue_outside p n v a hw ha
  untranslated h := by simp [State.storeValue, State.setDirty, h]
  dirty i h := by
    simp only [State.storeValue, State.setDirty, h, State.tlbEntry, State.storeBytes_tlb]
  stale e := by
    rw [State.storeValue, State.setDirty_stale, State.mem_storeBytes_stale _ _ _ _ hw]
    refine or_congr_right ⟨?_, ?_⟩
    · rintro ⟨k, hk, h1, h2, h3⟩
      rw [bytesOfWord_length] at hk
      exact ⟨k, hk, h1, by rw [← littleOfWord_get n v k hk]; exact h2, h3⟩
    · rintro ⟨k, hk, h1, h2, h3⟩
      exact ⟨k, by rw [bytesOfWord_length]; exact hk, h1, by rw [← littleOfWord_get n v k hk] at h2; exact h2, h3⟩

/-- What a store leaves alone. -/
theorem storeValue_rest (s : State) (p : Phys) (n : Nat) (v npc : Word) :
    { (s.storeValue p n v).setPc npc with mem := s.mem, stale := s.stale, tlb := s.tlb, pc := s.pc } = s := by
  cases s; simp [State.setPc]

theorem storeWord_completes {q : Pred} {len : Nat} {named : List Reg} {sg : SegReg} {off : Word} {n : Nat}
    {v : Word} {s : State} {p : Phys} (h : s.Executes q named) (hr : s.Reaches .store 0 sg off n p)
    (hw : s.mem.wf = true) : completesStore (storeWord q len named sg off n v s) s len p n v := by
  rw [storeWord, guarded_executes h, memWrite_reaches hr]
  have b := storeValue_stores s p n v hw
  exact ⟨_, rfl, ⟨⟨b.stored, b.outside, b.untranslated, b.dirty, b.stale⟩, rfl, storeValue_rest s p n v _⟩⟩

end Sys2Proof.Machine
end

