-- ==== Sys2Proof/Laws/Step.lean ====
section
/-! SUPPORT. What a step, a fetch, a TLB command, a jump through memory and a string element can do, said once. -/

namespace Sys2Proof.Machine

/-! ### The step -/

@[simp] theorem andThen_next (s : State) (k : State → Result) : andThen (.next s) k = k s := rfl
@[simp] theorem andThen_refused (x : Refusal) (k : State → Result) : andThen (.refused x) k = .refused x := rfl
@[simp] theorem andThen_fault (f : Fault) (k : State → Result) : andThen (.fault f) k = .fault f := rfl

/-- One outcome after another ends in a next state only through a next state of the first. -/
theorem andThen_eq_next {r : Result} {k : State → Result} {t : State} (h : andThen r k = .next t) :
    ∃ u, r = .next u ∧ k u = .next t := by
  cases r with
  | next u => exact ⟨u, rfl, h⟩
  | fault f => cases h
  | refused x => cases h

@[simp] theorem closeStep_next (s : State) : closeStep (.next s) = .next (endStep s) := rfl
@[simp] theorem closeStep_refused (x : Refusal) : closeStep (.refused x) = .refused x := rfl
@[simp] theorem closeStep_fault (f : Fault) : closeStep (.fault f) = .fault f := rfl

/-- A closed step ends in a next state only as the end of one. -/
theorem closeStep_eq_next {r : Result} {t : State} (h : closeStep r = .next t) : ∃ u, r = .next u ∧ t = endStep u := by
  obtain ⟨u, hu, hk⟩ := andThen_eq_next h
  exact ⟨u, hu, (Host.Outcome.next.inj hk).symm⟩

/-- What the end of a unit can be: the end of the step, or the single-step exception after it. -/
theorem afterUnit_cases {s : State} {i : Instr} {t u : State} (h : afterUnit s i t = .next u) :
    (singleSteps s i t = false ∧ u = endStep t) ∨
    (singleSteps s i t = true ∧ ∃ w, raiseException vecDebug (endStep t) = .next w ∧ u = endStep w) := by
  unfold afterUnit at h
  split at h
  · exact .inr ⟨‹_›, closeStep_eq_next h⟩
  · rename_i hs
    exact .inl ⟨by simpa using hs, (Host.Outcome.next.inj h).symm⟩

theorem predicateHolds_iff {s : State} {i : Instr} :
    s.predicateHolds i = true ↔ ∀ q, predicateOf i = some q → s.holds q = true := by
  unfold State.predicateHolds
  split <;> simp_all

/-- No single-step exception follows an instruction that was skipped (60_exceptions.md R605 item 6). -/
theorem singleSteps_skipped {s t : State} {i : Instr} (h : s.predicateHolds i = false) : singleSteps s i t = false := by
  simp [singleSteps, h]

theorem step_quiet {s : State} (h : (beginStep s).Quiet) : step s = runUnit exec (beginStep s) := by
  simp [step, stepWith, h.noReset, h.running, h.noNmi, h.noIrq]

theorem debugFetchCheck_unwatched {α : Type} {s : State} {c : Check α} (h : s.Unwatched) : debugFetchCheck s c = c := by
  unfold State.Unwatched at h
  simp [debugFetchCheck, h]

theorem runUnit_decoded {ex : Instr → State → Result} {s : State} {u : UnitBytes} {i : Instr} (hw : s.Unwatched)
    (hf : fetchUnitBytes s = .ok u) (hd : decode u.body = .ok i) :
    runUnit ex s = andThen (runDecoded ex s u.prefixBytes i) (afterUnit s i) := by
  rw [runUnit, debugFetchCheck_unwatched hw, hf]
  show runBytes ex s u = _
  rw [runBytes, hd]

theorem runUnit_rejected {ex : Instr → State → Result} {s : State} {u : UnitBytes} {e : DecodeError}
    (hw : s.Unwatched) (hf : fetchUnitBytes s = .ok u) (hd : decode u.body = .error e) :
    runUnit ex s = closeStep (rejectUnit s e) := by
  rw [runUnit, debugFetchCheck_unwatched hw, hf]
  show runBytes ex s u = _
  rw [runBytes, hd]

/-- What a unit that answers a next state did: it ran an instruction and what follows it, it was rejected, or its
fetch raised. -/
theorem runUnit_cases {ex : Instr → State → Result} {s t : State} (h : runUnit ex s = .next t) :
    (∃ u i w, fetchUnitBytes s = .ok u ∧ decode u.body = .ok i ∧ runDecoded ex s u.prefixBytes i = .next w ∧
      afterUnit s i w = .next t) ∨
    (∃ u e w, fetchUnitBytes s = .ok u ∧ decode u.body = .error e ∧ rejectUnit s e = .next w ∧ t = endStep w) ∨
    ∃ v u w, debugFetchCheck s (fetchUnitBytes s) = .raise v u ∧ raiseException v u = .next w ∧ t = endStep w := by
  unfold runUnit at h
  split at h
  · rename_i u hu
    have hf : fetchUnitBytes s = .ok u := by
      unfold debugFetchCheck at hu
      simp only at hu
      split at hu
      · exact hu
      · split at hu
        · cases hu
        · split at hu <;> cases hu
        · cases hu
        · cases hu
    unfold runBytes at h
    split at h
    · obtain ⟨w, hw, hk⟩ := andThen_eq_next h
      exact .inl ⟨u, _, w, hf, ‹_›, hw, hk⟩
    · obtain ⟨w, hw, hk⟩ := closeStep_eq_next h
      exact .inr (.inl ⟨u, _, w, hf, ‹_›, hw, hk⟩)
  · obtain ⟨w, hw, hk⟩ := closeStep_eq_next h
    exact .inr (.inr ⟨_, _, w, ‹_›, hw, hk⟩)
  · cases h
  · cases h

theorem eq_of_next {s t : State} (h : (Host.Outcome.next s : Result) = .next t) : t = s :=
  (Host.Outcome.next.inj h).symm

/-- What a step can be: the reset, an idle step, an interrupt entry, or a unit. -/
theorem step_cases {s t : State} (h : step s = .next t) :
    ((beginStep s).pins.rst = true ∧ t = endStep (warmReset (beginStep s))) ∨
    ((beginStep s).clk.stopped = true ∧ t = endStep (beginStep s)) ∨
    (takesNmi (beginStep s) = true ∧ ∃ u, enterNmi (beginStep s) = .next u ∧ t = endStep u) ∨
    (takesIrq (beginStep s) = true ∧
      ∃ u, enterInterrupt (beginStep s).pins.vec (beginStep s) = .next u ∧ t = endStep u) ∨
    ((beginStep s).Quiet ∧ runUnit exec (beginStep s) = .next t) := by
  unfold step stepWith at h
  generalize hs0 : beginStep s = s0 at h ⊢
  by_cases h1 : s0.pins.rst = true
  · simp only [h1, if_true] at h
    exact .inl ⟨h1, eq_of_next h⟩
  by_cases h2 : s0.clk.stopped = true
  · simp only [h1, h2, if_true] at h
    exact .inr (.inl ⟨h2, eq_of_next h⟩)
  by_cases h3 : takesNmi s0 = true
  · simp only [h1, h2, h3, if_true] at h
    exact .inr (.inr (.inl ⟨h3, closeStep_eq_next h⟩))
  by_cases h4 : takesIrq s0 = true
  · simp only [h1, h2, h3, h4, if_true] at h
    exact .inr (.inr (.inr (.inl ⟨h4, closeStep_eq_next h⟩)))
  · simp only [h1, h2, h3, h4] at h
    simp only [Bool.not_eq_true] at h1 h2 h3 h4
    exact .inr (.inr (.inr (.inr ⟨⟨h1, h2, h3, h4⟩, by simpa using h⟩)))

/-! ### Fetching -/

/-- Where the page is not cached or no stale byte is left, a fetch finds the byte in memory. -/
theorem fetchedByte_fresh {s : State} {slot : Nat} {p : Phys} (hd : s.isDevice p.pa.toNat = false)
    (hs : s.uncached p = true ∨ ∀ e ∈ s.stale, e.addr ≠ p.pa.toNat) :
    s.fetchedByte slot p = s.mem.read p.pa.toNat := by
  by_cases hu : s.uncached p = true
  · simp [State.fetchedByte, State.readByte, hd, hu]
  · have hf : s.stale.filter (fun e => e.addr == p.pa.toNat) = [] := by
      rw [List.filter_eq_nil_iff]
      intro e he
      simpa using hs.resolve_left hu e he
    simp [State.fetchedByte, State.readByte, hd, hf]

theorem fetchByte_codeIs {s : State} {bs : List Byte} (h : s.CodeIs bs) {k : Nat} (hk : k < bs.length) :
    fetchByte s k = .ok bs[k] := by
  obtain ⟨p, ha, hd, hs, hm⟩ := h k hk
  show (fetchAddress s k).andThen _ = _
  rw [ha]
  show Check.ok (s.fetchedByte (8 + k) p) = _
  rw [fetchedByte_fresh hd hs, hm]

theorem fetchBytes_codeIs {s : State} {bs : List Byte} (h : s.CodeIs bs) :
    ∀ (n k : Nat), k + n ≤ bs.length → fetchBytes s k n = .ok ((bs.drop k).take n) := by
  intro n
  induction n with
  | zero => intro k _; rfl
  | succ n ih =>
    intro k hk
    have hlt : k < bs.length := by omega
    show (fetchByte s k).andThen _ = _
    rw [fetchByte_codeIs h hlt]
    show (fetchBytes s (k + 1) n).andThen _ = _
    rw [ih (k + 1) (by omega), List.drop_eq_getElem_cons hlt, List.take_succ_cons]
    rfl

/-! ### TLB commands -/

theorem tlbCommand_runs {q : Pred} {s : State} {k : Word → Result} (h : s.holds q = true) (hk : s.kernel = true) :
    tlbCommand q s k = k (s.npc 4) := by
  rw [tlbCommand, guarded_executes (executes_nil h), privileged_kernel hk]

theorem tlbCommand_raises {q : Pred} {s : State} {k : Word → Result} (h : s.holds q = true) (hk : s.kernel = false) :
    tlbCommand q s k = raiseException vecPrivilege s := by
  rw [tlbCommand, guarded_executes (executes_nil h), privileged_application hk]

/-! ### Jumps -/

theorem setCodeReg_jumps (s : State) (ct : CodeReg) (link target : Word) :
    completesJump (.next ((s.setCodeReg ct link).setPc target)) s ct link target := by
  refine ⟨_, rfl, rfl, fun n c => ?_, fun a => ?_, ?_⟩
  · have e := State.codeReg_setCodeReg s n ct c link
    simp only [State.codeReg, State.setPc] at e ⊢
    rw [e]
    by_cases hc : c = ct
    · subst hc; simp
    · simp [hc]
  · simp
  · unfold State.setCodeReg State.setPc; split <;> rfl

theorem jumpThrough_completes {q : Pred} {named : List Reg} {sg : SegReg} {ct : CodeReg} {off : Word} {n : Nat}
    {target : Word → Word → Word} {s : State} {p : Phys} (h : s.Executes q named)
    (hr : s.Reaches .load 0 sg off n p) :
    completesJump (jumpThrough q named sg ct off n target s) s ct (s.npc 5)
      (target (s.npc 5) (s.loadValue 0 p n)) := by
  rw [jumpThrough, guarded_executes h, memRead_reaches hr]
  exact setCodeReg_jumps s ct (s.npc 5) _

/-! ### String elements -/

theorem stringStep_done {q : Pred} {named : List Reg} {s : State} {k : Word → Result} (h : s.Executes q named)
    (hl : s.lc = 0) : stringStep q named s k = .next (s.setPc (s.npc 5)) := by
  rw [stringStep, guarded_executes h, if_pos hl]

theorem stringStep_runs {q : Pred} {named : List Reg} {s : State} {k : Word → Result} (h : s.Executes q named)
    (hl : s.lc ≠ 0) : stringStep q named s k = k (s.npc 5) := by
  rw [stringStep, guarded_executes h, if_neg hl]

end Sys2Proof.Machine
end

