-- ==== Sys2Proof/Tests/Slice0.lean ====
section
/-! SUPPORT. The model's own tests: ill-formed terms, decoded words written out from the encodings, one step for each
vector of the spec (the source is named in each comment), and for each statement with hypotheses a witness. -/

set_option Elab.async false

namespace Sys2Proof.Tests
open Machine

/-- The reset state at 1000h in application mode. -/
def user : State := { State.reset with pc := 0x1000, hwi := false }

/-- Bytes placed in memory. -/
def withBytes (s : State) (a : Nat) (bs : List Byte) : State := { s with mem := s.mem.writeList a bs }

/-- One step at an instruction placed at pc. -/
def run1 (s : State) (bytes : List Byte) : Result := step (withBytes s s.pc.toNat bytes)

/-- The outcome is a next state that `p` holds of. -/
def ends (r : Result) (p : State → Bool) : Bool :=
  match r with
  | .next t => p t
  | _ => false

/-- The outcome is the refusal `x`. -/
def stopsWith (r : Result) (x : Refusal) : Bool :=
  match r with
  | .refused y => y == x
  | _ => false

/-- The bytes decode to the instruction. -/
def decodesTo (bs : List Byte) (i : Instr) : Bool :=
  match decode bs with
  | .ok j => j == i
  | _ => false

/-! ### WellFormed: an ill-formed term for each check -/

theorem test_wellFormed_refuses_sys : wellFormed (.sys .always 12 14 4) = false := by decide +kernel

theorem test_wellFormed_refuses_int : wellFormed (.int .always 12 13 4) = false := by decide +kernel

theorem test_wellFormed_refuses_rts4 : wellFormed (.rts4 .always 1 0 4) = false := by decide +kernel

theorem test_wellFormed_refuses_inc_o3 : wellFormed (.inc .always 1 1 3 2 0 1) = false := by decide +kernel

theorem test_wellFormed_refuses_inc_size : wellFormed (.inc .always 1 0 4 2 0 1) = false := by decide +kernel

theorem test_wellFormed_refuses_mfspr : wellFormed (.mfspr .always 1 54) = false := by decide +kernel

theorem test_wellFormed_refuses_mtspr : wellFormed (.mtspr .always 58 1) = false := by decide +kernel

theorem test_wellFormed_refuses_ldis : wellFormed (.ldis .always 62 0) = false := by decide +kernel

theorem test_wellFormed_refuses_lws : wellFormed (.lws .always 1 63 2 0) = false := by decide +kernel

theorem test_wellFormed_refuses_sws : wellFormed (.sws .always 1 55 2 0) = false := by decide +kernel

theorem test_wellFormed_refuses_movs_target : wellFormed (.movs .always 56 0) = false := by decide +kernel

theorem test_wellFormed_refuses_movs_source : wellFormed (.movs .always 0 57) = false := by decide +kernel

theorem test_wellFormed_refuses_tlbrdreg : wellFormed (.tlbrdreg .always 6 1) = false := by decide +kernel

theorem test_wellFormed_refuses_tlbwrreg : wellFormed (.tlbwrreg .always 12 1) = false := by decide +kernel

theorem test_wellFormed_refuses_bfins : wellFormed (.bfins .always 1 2 1 0) = false := by decide +kernel

theorem test_wellFormed_refuses_bfset : wellFormed (.bfset .always 1 2 63 62) = false := by decide +kernel

theorem test_wellFormed_refuses_bfclr : wellFormed (.bfclr .always 1 2 1 0) = false := by decide +kernel

theorem test_wellFormed_refuses_bfchg : wellFormed (.bfchg .always 1 2 1 0) = false := by decide +kernel

theorem test_wellFormed_refuses_bfextu : wellFormed (.bfextu .always 1 2 1 0) = false := by decide +kernel

theorem test_wellFormed_refuses_bfext : wellFormed (.bfext .always 1 2 1 0) = false := by decide +kernel

theorem test_wellFormed_refuses_bfinsi : wellFormed (.bfinsi .always 1 2 1 0) = false := by decide +kernel

theorem test_wellFormed_refuses_map_only : wellFormed (.fadd .always) = false := by decide +kernel

/-- What each check lets through at the edge of its range. -/
theorem test_wellFormed_accepts :
    ([.sys .always 12 13 4, .int .always 12 14 4, .rts4 .always 1 0 248, .inc .always 1 0 3 2 0 1, .mfspr .always 1 53,
      .mtspr .always 59 1, .ldis .always 61 0, .lws .always 1 0 2 0, .sws .always 1 48 2 0, .movs .always 60 47,
      .tlbrdreg .always 5 1, .tlbrdreg .always 11 1, .tlbwrreg .always 7 1, .bfins .always 1 2 0 0,
      .bfset .always 1 2 63 63, .bfclr .always 1 2 0 63].all fun i => wellFormed i) = true := by decide +kernel

/-! ### Decoding -/

/-- One-byte specials and immediate prefixes (R133, R139): words from the encodings of the opcode table. -/
theorem test_decode_specials :
    (decodesTo [0x00] (.brk)
      && decodesTo [0x10] (.nop1)
      && decodesTo [0x11] (.rts1)
      && decodesTo [0x20, 0xA6] (.imm16 166)
      && decodesTo [0x30, 0x5C, 0x8C] (.imm24 35932)
      && decodesTo [0x40, 0xE8, 0x18, 0x98] (.imm32 9967848)
      && decodesTo [0x50, 0x75, 0x04, 0xD9, 0x8E] (.imm40 2396587125)
      && decodesTo [0x60, 0xCC, 0x75, 0xF6, 0x36, 0x89] (.imm48 589332641228)
      && decodesTo [0x70, 0x9B, 0x54, 0x0D, 0x6B, 0xE2, 0x91] (.imm56 160401644672155)
      && decodesTo [0x80, 0xCE, 0x6E, 0x11, 0x8D, 0x4A, 0xAD, 0xEC] (.imm64 66618630209629902)) = true :=
    by decide +kernel

/-- Compares (41_compare_predicate.md): words from the encodings of the opcode table. -/
theorem test_decode_compares :
    (decodesTo [0x01, 0x0E, 0x04] (.tst .always 14 4)
      && decodesTo [0x01, 0x14, 0x48, 0x09] (.cmp .always 4 8 37)
      && decodesTo [0x54, 0x2A, 0xA9, 0xA1] (.cmpi (.test 5 .le) 10 41 646)) = true := by decide +kernel

/-- Relative branch (R181): words from the encodings of the opcode table. -/
theorem test_decode_br :
    (decodesTo [0x01, 0x31, 0xF3] (.br .always 499)) = true := by decide +kernel

/-- Register-register arithmetic, opcode 40h (42_arithmetic.md): words from the encodings of the opcode table. -/
theorem test_decode_arith :
    (decodesTo [0x01, 0x40, 0x9A, 0x59, 0x02] (.add .always 37 26 38)
      && decodesTo [0x54, 0x40, 0xCF, 0x4F, 0x04] (.sub (.test 5 .le) 4 15 63)
      && decodesTo [0x01, 0x40, 0x37, 0x39, 0x08] (.mul .always 3 55 36)
      && decodesTo [0x01, 0x40, 0xDB, 0x94, 0x0C] (.div .always 9 27 19)
      && decodesTo [0x54, 0x40, 0xC8, 0xA8, 0x10] (.addu (.test 5 .le) 10 8 35)
      && decodesTo [0x01, 0x40, 0x24, 0x55, 0x16] (.subu .always 37 36 20)
      && decodesTo [0x01, 0x40, 0x0C, 0x5B, 0x1B] (.mulu .always 53 12 44)
      && decodesTo [0x54, 0x40, 0xA5, 0x79, 0x1C] (.divu (.test 5 .le) 7 37 38)
      && decodesTo [0x01, 0x40, 0x58, 0x93, 0x22] (.addu2 .always 41 24 13)
      && decodesTo [0x01, 0x40, 0x2E, 0x79, 0x24] (.addu4 .always 7 46 36)
      && decodesTo [0x54, 0x40, 0x44, 0x59, 0x28] (.addu8 (.test 5 .le) 5 4 37)
      && decodesTo [0x01, 0x40, 0xA0, 0x83, 0x2E] (.addu16 .always 40 32 14)
      && decodesTo [0x01, 0x40, 0xDC, 0xC8, 0x42] (.min .always 44 28 35)
      && decodesTo [0x54, 0x40, 0x5E, 0x25, 0x47] (.max (.test 5 .le) 50 30 21)) = true := by decide +kernel

/-- Opcode 41h (R486, R543): words from the encodings of the opcode table. -/
theorem test_decode_ident :
    (decodesTo [0x01, 0x41, 0xBC, 0x09] (.cpuid .always 38 60)
      && decodesTo [0x01, 0x41, 0x98, 0x17] (.redor .always 30 24)
      && decodesTo [0x54, 0x41, 0x10, 0x25] (.redand (.test 5 .le) 20 16)
      && decodesTo [0x01, 0x41, 0xCC, 0x3C] (.par .always 51 12)) = true := by decide +kernel

/-- Predicate logic, opcode 42h (R229): words from the encodings of the opcode table. -/
theorem test_decode_pred_logic :
    (decodesTo [0x01, 0x42, 0x90, 0xDC, 0x02] (.pand .always 45 16 50)
      && decodesTo [0x54, 0x42, 0x54, 0x69, 0x04] (.por (.test 5 .le) 6 20 37)
      && decodesTo [0x01, 0x42, 0x39, 0x28, 0x0A] (.peor .always 34 57 32)
      && decodesTo [0x01, 0x42, 0xDD, 0x6B, 0x0D] (.pnand .always 22 29 47)
      && decodesTo [0x54, 0x42, 0xFF, 0x39, 0x11] (.pnor (.test 5 .le) 19 63 39)
      && decodesTo [0x01, 0x42, 0x21, 0x52, 0x14] (.penor .always 5 33 8)
      && decodesTo [0x01, 0x42, 0xF1, 0xB2, 0x19] (.pandc .always 27 49 11)
      && decodesTo [0x54, 0x42, 0xBC, 0x62, 0x1D] (.porc (.test 5 .le) 22 60 10)) = true := by decide +kernel

/-- Register-immediate arithmetic (42_arithmetic.md): words from the encodings of the opcode table. -/
theorem test_decode_arith_imm :
    (decodesTo [0x01, 0x46, 0xC3, 0x31, 0x7D] (.biti .always 7 3 2003)
      && decodesTo [0x01, 0x47, 0xAB, 0xF6] (.adduiShort .always 43 986)
      && decodesTo [0x54, 0x48, 0x64, 0xEC, 0x13] (.addi (.test 5 .le) 49 36 318)
      && decodesTo [0x01, 0x49, 0xF9, 0xCC, 0x92] (.subi .always 51 57 2348)
      && decodesTo [0x01, 0x4A, 0x56, 0x85, 0xD1] (.muli .always 21 22 3352)
      && decodesTo [0x54, 0x4B, 0xE7, 0x05, 0xB2] (.divi (.test 5 .le) 23 39 2848)
      && decodesTo [0x01, 0x4C, 0xB4, 0x39, 0x7F] (.addui .always 38 52 2035)
      && decodesTo [0x01, 0x4D, 0x76, 0xD1, 0x74] (.subui .always 5 54 1869)
      && decodesTo [0x54, 0x4E, 0x52, 0x0F, 0x18] (.mului (.test 5 .le) 61 18 384)
      && decodesTo [0x01, 0x4F, 0x6B, 0x6B, 0x79] (.divui .always 45 43 1942)) = true := by decide +kernel

/-- Logic (43_logic_shift_bitfield.md): words from the encodings of the opcode table. -/
theorem test_decode_logic :
    (decodesTo [0x01, 0x50, 0x2F, 0x51, 0x00] (.and .always 5 47 4)
      && decodesTo [0x54, 0x50, 0x2A, 0xD5, 0x06] (.or (.test 5 .le) 45 42 20)
      && decodesTo [0x01, 0x50, 0x35, 0x5B, 0x0A] (.eor .always 37 53 44)
      && decodesTo [0x01, 0x50, 0xEE, 0xD4, 0x0D] (.nand .always 29 46 19)
      && decodesTo [0x54, 0x50, 0x6B, 0x9E, 0x11] (.nor (.test 5 .le) 25 43 57)
      && decodesTo [0x01, 0x50, 0xBD, 0x70, 0x15] (.enor .always 23 61 2)
      && decodesTo [0x01, 0x50, 0xCB, 0xE5, 0x19] (.andc .always 30 11 23)
      && decodesTo [0x54, 0x50, 0x20, 0x82, 0x1E] (.orc (.test 5 .le) 40 32 8)
      && decodesTo [0x01, 0x51, 0x93, 0xEC, 0x10] (.mlo .always 4 19 50 14)
      && decodesTo [0x01, 0x53, 0x10, 0x2C, 0x21] (.andi .always 48 16 530)
      && decodesTo [0x54, 0x54, 0xBB, 0xE6, 0x65] (.ori (.test 5 .le) 26 59 1630)
      && decodesTo [0x01, 0x55, 0x06, 0x28, 0xDF] (.eori .always 32 6 3570)) = true := by decide +kernel

/-- Shifts and rotates, opcode 58h (R320): words from the encodings of the opcode table. -/
theorem test_decode_shifts :
    (decodesTo [0x01, 0x58, 0x5A, 0xB7, 0x00] (.shl .always 11 26 29)
      && decodesTo [0x54, 0x58, 0xB9, 0x44, 0x06] (.shr (.test 5 .le) 36 57 18)
      && decodesTo [0x01, 0x58, 0x5C, 0x9D, 0x08] (.shlu .always 9 28 53)
      && decodesTo [0x01, 0x58, 0x12, 0x89, 0x0F] (.shru .always 56 18 36)
      && decodesTo [0x54, 0x58, 0xD7, 0xE6, 0x12] (.rol (.test 5 .le) 46 23 27)
      && decodesTo [0x01, 0x58, 0x59, 0xCE, 0x16] (.ror .always 44 25 57)
      && decodesTo [0x01, 0x58, 0xCA, 0xE3, 0x43] (.shli .always 62 10 15)
      && decodesTo [0x54, 0x58, 0x0A, 0x63, 0x44] (.shri (.test 5 .le) 6 10 12)
      && decodesTo [0x01, 0x58, 0xCF, 0xFA, 0x48] (.shlui .always 15 15 43)
      && decodesTo [0x01, 0x58, 0x36, 0x18, 0x4C] (.shrui .always 1 54 32)
      && decodesTo [0x54, 0x58, 0x11, 0x63, 0x52] (.roli (.test 5 .le) 38 17 12)
      && decodesTo [0x01, 0x58, 0x4A, 0x30, 0x55] (.rori .always 19 10 1)) = true := by decide +kernel

/-- Scaled add immediate, load immediate, multiplex: words from the encodings of the opcode table. -/
theorem test_decode_scaled_imm :
    (decodesTo [0x01, 0x6B, 0xD8, 0x58, 0x6B] (.addui2 .always 35 24 1717)
      && decodesTo [0x54, 0x6C, 0x55, 0x29, 0x9C] (.addui4 (.test 5 .le) 37 21 2498)
      && decodesTo [0x01, 0x6D, 0x6D, 0x02, 0xF4] (.addui8 .always 9 45 3904)
      && decodesTo [0x01, 0x6E, 0x7D, 0x08, 0xDC] (.addui16 .always 33 61 3520)
      && decodesTo [0x54, 0x6F, 0x6A, 0x9E] (.ldi (.test 5 .le) 42 633)
      && decodesTo [0x01, 0x72, 0x1E, 0x01, 0xB3] (.mux .always 44 30 4 48)) = true := by decide +kernel

/-- Floating point names of the opcode map, no format given (R545, R550): words
from the encodings of the opcode table. -/
theorem test_decode_float :
    (decodesTo [0x01, 0x76] (.fmac .always)
      && decodesTo [0x54, 0x77, 0x00, 0x00] (.fmov (.test 5 .le))
      && decodesTo [0x01, 0x77, 0x00, 0x20] (.ftoi .always)
      && decodesTo [0x01, 0x77, 0x00, 0x30] (.itof .always)
      && decodesTo [0x54, 0x77, 0x00, 0x40] (.fneg (.test 5 .le))
      && decodesTo [0x01, 0x77, 0x00, 0x50] (.fabs .always)
      && decodesTo [0x01, 0x77, 0x00, 0x60] (.fsign .always)
      && decodesTo [0x54, 0x77, 0x00, 0x70] (.fman (.test 5 .le))
      && decodesTo [0x01, 0x77, 0x00, 0x80] (.fnabs .always)
      && decodesTo [0x01, 0x77, 0x00, 0xC0] (.fstat .always)
      && decodesTo [0x54, 0x77, 0x00, 0xD0] (.frm (.test 5 .le))
      && decodesTo [0x01, 0x78, 0x00, 0x00, 0x1C] (.fcmp .always)
      && decodesTo [0x01, 0x78, 0x00, 0x00, 0x20] (.fadd .always)
      && decodesTo [0x54, 0x78, 0x00, 0x00, 0x24] (.fsub (.test 5 .le))
      && decodesTo [0x01, 0x78, 0x00, 0x00, 0x28] (.fmul .always)
      && decodesTo [0x01, 0x78, 0x00, 0x00, 0x2C] (.fdiv .always)
      && decodesTo [0x54, 0x78, 0x00, 0x00, 0x5C] (.fcmps (.test 5 .le))
      && decodesTo [0x01, 0x78, 0x00, 0x00, 0x60] (.fadds .always)
      && decodesTo [0x01, 0x78, 0x00, 0x00, 0x64] (.fsubs .always)
      && decodesTo [0x54, 0x78, 0x00, 0x00, 0x68] (.fmuls (.test 5 .le))
      && decodesTo [0x01, 0x78, 0x00, 0x00, 0x6C] (.fdivs .always)
      && decodesTo [0x01, 0x79, 0x00, 0x00] (.fmovs .always)
      && decodesTo [0x54, 0x79, 0x00, 0x20] (.ftois (.test 5 .le))
      && decodesTo [0x01, 0x79, 0x00, 0x30] (.itofs .always)
      && decodesTo [0x01, 0x79, 0x00, 0x40] (.fnegs .always)
      && decodesTo [0x54, 0x79, 0x00, 0x50] (.fabss (.test 5 .le))
      && decodesTo [0x01, 0x79, 0x00, 0x60] (.fsigns .always)
      && decodesTo [0x01, 0x79, 0x00, 0x70] (.fmans .always)
      && decodesTo [0x54, 0x79, 0x00, 0x80] (.fnabss (.test 5 .le))
      && decodesTo [0x01, 0x79, 0x00, 0xC0] (.ftx .always)
      && decodesTo [0x01, 0x79, 0x00, 0xD0] (.fcx .always)
      && decodesTo [0x54, 0x79, 0x00, 0xE0] (.fex (.test 5 .le))
      && decodesTo [0x01, 0x79, 0x00, 0xF0] (.fdx .always)
      && decodesTo [0x01, 0x03, 0x40] (.ftst .always 3)
      && decodesTo [0x54, 0x03, 0x80] (.fstst (.test 5 .le) 3)
      && decodesTo [0x01, 0x13, 0x00, 0x20] (.fscmp .always 3)) = true := by decide +kernel

/-- Loads and stores, register indirect with displacement (44_load_store.md): words
from the encodings of the opcode table. -/
theorem test_decode_mem :
    (decodesTo [0x01, 0x80, 0x78, 0x0F, 0xF9] (.lb .always 7 61 56 400)
      && decodesTo [0x54, 0x81, 0x1A, 0x99, 0xD9] (.lbu (.test 5 .le) 6 36 26 409)
      && decodesTo [0x01, 0x82, 0x87, 0xD6, 0x8C] (.lc .always 4 26 7 205)
      && decodesTo [0x01, 0x83, 0x84, 0x56, 0x94] (.lcu .always 4 26 4 325)
      && decodesTo [0x54, 0x84, 0x9D, 0x33, 0x42] (.lh (.test 5 .le) 2 14 29 35)
      && decodesTo [0x01, 0x85, 0xA7, 0x95, 0x43] (.lhu .always 2 22 39 57)
      && decodesTo [0x01, 0x86, 0x65, 0x50, 0x23] (.lw .always 1 1 37 53)
      && decodesTo [0x54, 0x87] (.lfs (.test 5 .le))
      && decodesTo [0x01, 0x88] (.lfd .always)
      && decodesTo [0x01, 0x8B, 0xFD, 0x31, 0x51] (.lvwar .always 2 7 61 275)
      && decodesTo [0x54, 0x8C, 0x85, 0xB0, 0x73] (.swcr (.test 5 .le) 3 2 5 315)
      && decodesTo [0x01, 0x8D, 0x99, 0xB6, 0xE6] (.jci .always 7 10 25 107)
      && decodesTo [0x01, 0x8D, 0x7E, 0x59, 0x54] (.jhi .always 2 5 62 325)
      && decodesTo [0x54, 0x8D, 0x9F, 0x5D, 0x73] (.jwi (.test 5 .le) 3 6 31 309)
      && decodesTo [0x01, 0x8E, 0xE0, 0xCD, 0x23] (.lws .always 1 55 32 60)
      && decodesTo [0x01, 0x8F, 0xD4, 0x67, 0x8F] (.lcl .always 4 31 20 246)
      && decodesTo [0x54, 0x90, 0xF0, 0xA1, 0x24] (.sb (.test 5 .le) 1 7 48 74)
      && decodesTo [0x01, 0x91, 0x5F, 0xC4, 0x77] (.sc .always 3 17 31 380)
      && decodesTo [0x01, 0x92, 0xE2, 0x32, 0xF6] (.sh .always 7 11 34 355)
      && decodesTo [0x54, 0x93, 0x7D, 0xAF, 0x26] (.sw (.test 5 .le) 1 61 61 106)
      && decodesTo [0x01, 0x94] (.sfs .always)
      && decodesTo [0x01, 0x95] (.sfd .always)
      && decodesTo [0x54, 0x96, 0xAD, 0xA2, 0xAB] (.sti (.test 5 .le) 5 10 45 186)
      && decodesTo [0x01, 0x97, 0x62, 0x2C, 0xEC, 0x8C] (.cas .always 59 34 49 2 140)) = true := by decide +kernel

/-- Memory string instructions (45_string.md): words from the encodings of the opcode table. -/
theorem test_decode_strings :
    (decodesTo [0x01, 0x98, 0xAD, 0x81, 0x7B] (.stset .always 3 .half .down 45 6)
      && decodesTo [0x54, 0x99, 0x3B, 0x26, 0xEE] (.stmov (.test 5 .le) 7 .word .up 59 24 34)
      && decodesTo [0x01, 0x9A, 0xE3, 0x23, 0x4F] (.stcmp .always 2 .word .up 35 15 50)
      && decodesTo [0x01, 0x9B, 0xA9, 0x15, 0xBE] (.stfnd .always 5 .word .down 41 22 33)
      && decodesTo [0x54, 0x9D, 0x68, 0x39] (.ldis (.test 5 .le) 40 229)
      && decodesTo [0x01, 0x9E, 0x77, 0x4C, 0xF9] (.sws .always 7 49 55 404)) = true := by decide +kernel

/-- CACHE, one row for each command (R498): words from the encodings of the opcode table. -/
theorem test_decode_cache :
    (decodesTo [0x01, 0x9F, 0x0D, 0x00] (.cacheInvI .always)
      && decodesTo [0x54, 0x9F, 0x34, 0x04] (.cacheInvILine (.test 5 .le) 52)
      && decodesTo [0x01, 0x9F, 0x10, 0x80] (.cacheInvD .always)
      && decodesTo [0x01, 0x9F, 0x35, 0x84] (.cacheInvDLine .always 53)) = true := by decide +kernel

/-- Jumps, returns, LOOP, SYS, INT (40_control_transfer.md, 46_system.md): words
from the encodings of the opcode table. -/
theorem test_decode_jumps :
    (decodesTo [0x54, 0xA0, 0x7C] (.jsr3 (.test 5 .le) 12 7)
      && decodesTo [0x01, 0xA1, 0x44, 0xA7, 0xCD] (.jsr5 .always 4 4 52647)
      && decodesTo [0x01, 0xA2, 0x86, 0xF9, 0x83, 0x84] (.jsr6 .always 6 8 8684537)
      && decodesTo [0x54, 0xA3, 0xC1] (.rts3 (.test 5 .le) 12 1)
      && decodesTo [0x01, 0xA4, 0xFE] (.loop .always 254)
      && decodesTo [0x01, 0xA5, 0xCD, 0x08] (.sys .always 12 13 8)
      && decodesTo [0x54, 0xA6, 0xCE, 0xCB] (.int (.test 5 .le) 12 14 203)) = true := by decide +kernel

/-- Register moves, counts, extensions, opcode A7h: words from the encodings of the opcode table. -/
theorem test_decode_moves :
    (decodesTo [0x01, 0xA7, 0x9F, 0x04] (.mov .always 18 31)
      && decodesTo [0x01, 0xA7, 0x4D, 0x14] (.neg .always 17 13)
      && decodesTo [0x54, 0xA7, 0x67, 0x2B] (.not (.test 5 .le) 45 39)
      && decodesTo [0x01, 0xA7, 0x97, 0x3F] (.abs .always 62 23)
      && decodesTo [0x01, 0xA7, 0x74, 0x47] (.sgn .always 29 52)
      && decodesTo [0x54, 0xA7, 0x2F, 0x5F] (.cntlz (.test 5 .le) 60 47)
      && decodesTo [0x01, 0xA7, 0xFE, 0x65] (.cntlo .always 23 62)
      && decodesTo [0x01, 0xA7, 0xD8, 0x7F] (.cntpop .always 63 24)
      && decodesTo [0x54, 0xA7, 0x8F, 0x81] (.sxb (.test 5 .le) 6 15)
      && decodesTo [0x01, 0xA7, 0xCF, 0x91] (.sxc .always 7 15)
      && decodesTo [0x01, 0xA7, 0xCD, 0xA7] (.sxh .always 31 13)
      && decodesTo [0x54, 0xA7, 0x8E, 0xB5] (.com (.test 5 .le) 22 14)
      && decodesTo [0x01, 0xA7, 0xE8, 0xC7] (.zxb .always 31 40)
      && decodesTo [0x01, 0xA7, 0xA8, 0xDE] (.zxc .always 58 40)
      && decodesTo [0x54, 0xA7, 0x81, 0xED] (.zxh (.test 5 .le) 54 1)
      && decodesTo [0x01, 0xA8, 0xFB, 0x07] (.mfspr .always 31 59)
      && decodesTo [0x01, 0xA9, 0x97, 0x0A] (.mtspr .always 42 23)) = true := by decide +kernel

/-- Bit fields, opcode AAh (R350): words from the encodings of the opcode table. -/
theorem test_decode_bit_fields :
    (decodesTo [0x54, 0xAA, 0xB6, 0xA1, 0xD2, 0x00] (.bfins (.test 5 .le) 6 54 42 52)
      && decodesTo [0x01, 0xAA, 0xD9, 0x8E, 0xAC, 0x01] (.bfset .always 59 25 8 43)
      && decodesTo [0x01, 0xAA, 0x4D, 0xEC, 0xCE, 0x02] (.bfclr .always 49 13 46 51)
      && decodesTo [0x54, 0xAA, 0x1C, 0x93, 0x7F, 0x03] (.bfchg (.test 5 .le) 12 28 57 31)
      && decodesTo [0x01, 0xAA, 0x86, 0x95, 0xCE, 0x04] (.bfextu .always 22 6 41 51)
      && decodesTo [0x01, 0xAA, 0xEF, 0xDF, 0xD3, 0x05] (.bfext .always 63 47 61 52)
      && decodesTo [0x54, 0xAA, 0xB0, 0xE6, 0x69, 0x06] (.bfinsi (.test 5 .le) 26 48 30 26)
      && decodesTo [0x01, 0xAB, 0x46, 0x0F] (.movs .always 61 6)) = true := by decide +kernel

/-- Volatile loads: words from the encodings of the opcode table. -/
theorem test_decode_volatile :
    (decodesTo [0x01, 0xAC, 0xC9, 0x22, 0xC5] (.lvb .always 6 11 9 82)
      && decodesTo [0x54, 0xAD, 0xBA, 0xE9, 0x24] (.lvc (.test 5 .le) 1 38 58 78)
      && decodesTo [0x01, 0xAE, 0x8A, 0xDA, 0x99] (.lvh .always 4 42 10 413)
      && decodesTo [0x01, 0xAF, 0xFF, 0x89, 0xBA] (.lvw .always 5 39 63 424)) = true := by decide +kernel

/-- Scaled indexed loads, jumps and stores: words from the encodings of the opcode table. -/
theorem test_decode_indexed :
    (decodesTo [0x54, 0xB0, 0xCA, 0xC5, 0x8F] (.lbx (.test 5 .le) 4 3 60 10 23)
      && decodesTo [0x01, 0xB1, 0x81, 0x90, 0xAC] (.lbux .always 5 3 9 1 2)
      && decodesTo [0x01, 0xB2, 0xE2, 0xA1, 0xEE] (.lcx .always 7 3 42 34 7)
      && decodesTo [0x54, 0xB3, 0x0D, 0xCE, 0xC5] (.lcux (.test 5 .le) 6 1 28 13 56)
      && decodesTo [0x01, 0xB4, 0x4E, 0x24, 0xE4] (.lhx .always 7 1 2 14 17)
      && decodesTo [0x01, 0xB5, 0x66, 0x0C, 0x6D] (.lhux .always 3 3 16 38 49)
      && decodesTo [0x54, 0xB6, 0xF6, 0x36, 0x6A] (.lwx (.test 5 .le) 3 2 35 54 27)
      && decodesTo [0x01, 0xB7, 0xF0, 0x1E, 0x41] (.jcix .always 2 1 48 59)
      && decodesTo [0x01, 0xB7, 0xAB, 0xF7, 0x62] (.jhix .always 3 15 43 30)
      && decodesTo [0x54, 0xB7, 0xA2, 0xEE, 0xA3] (.jwix (.test 5 .le) 5 14 34 58)
      && decodesTo [0x01, 0xC0, 0xCA, 0x98, 0x8C] (.sbx .always 4 3 9 10 35)
      && decodesTo [0x01, 0xC1, 0x1D, 0x2E, 0xAC] (.scx .always 5 3 2 29 56)
      && decodesTo [0x54, 0xC2, 0x72, 0x70, 0xE6] (.shx (.test 5 .le) 7 1 39 50 1)
      && decodesTo [0x01, 0xC3, 0x9F, 0xC2, 0xE4] (.swx .always 7 1 12 31 10)
      && decodesTo [0x01, 0xC6, 0x04, 0x89, 0xAC] (.stix .always 3 648 4 36)
      && decodesTo [0x54, 0xC7, 0x5F, 0xAB, 0xD0, 0x54] (.inc (.test 5 .le) 6 5 5 31 266 84)) = true :=
    by decide +kernel

/-- Stack names of the opcode map, no page given (R547): words from the encodings of the opcode table. -/
theorem test_decode_stack :
    (decodesTo [0x01, 0xC8] (.push .always)
      && decodesTo [0x01, 0xC9] (.pea .always)
      && decodesTo [0x54, 0xCA] (.pop (.test 5 .le))
      && decodesTo [0x01, 0xCB] (.link .always)
      && decodesTo [0x01, 0xCC] (.unlink .always)) = true := by decide +kernel

/-- Short LW, TLB, system: words from the encodings of the opcode table. -/
theorem test_decode_tlb_system :
    (decodesTo [0x54, 0xD6, 0x87, 0xEC] (.lwShort (.test 5 .le) 7 50 7)
      && decodesTo [0x01, 0xF0, 0x90, 0x39] (.tlbnop .always)
      && decodesTo [0x01, 0xF0, 0x41, 0x04] (.tlbpb .always)
      && decodesTo [0x54, 0xF0, 0x52, 0x0D] (.tlbrd (.test 5 .le))
      && decodesTo [0x01, 0xF0, 0xD3, 0x03] (.tlbwr .always)
      && decodesTo [0x01, 0xF0, 0x94, 0x07] (.tlbwi .always)
      && decodesTo [0x54, 0xF0, 0x95, 0x1D] (.tlben (.test 5 .le))
      && decodesTo [0x01, 0xF0, 0xD6, 0x02] (.tlbdis .always)
      && decodesTo [0x01, 0xF0, 0xF7, 0x3A] (.tlbrdreg .always 15 58)
      && decodesTo [0x54, 0xF0, 0x88, 0x05] (.tlbwrreg (.test 5 .le) 8 5)
      && decodesTo [0x01, 0xF0, 0xA9, 0x15] (.tlbinv .always)
      && decodesTo [0x01, 0xF1] (.nop2 .always)
      && decodesTo [0x54, 0xF2, 0x9A, 0xFA] (.rts4 (.test 5 .le) 9 10 250)
      && decodesTo [0x01, 0xF3] (.rte .always)
      && decodesTo [0x01, 0xF4] (.rti .always)
      && decodesTo [0x54, 0xF5, 0x6D, 0x13, 0x02] (.bcdadd (.test 5 .le) 33 45 13)
      && decodesTo [0x01, 0xF5, 0x61, 0x27, 0x05] (.bcdsub .always 18 33 29)
      && decodesTo [0x01, 0xF5, 0x1F, 0x3D, 0x0A] (.bcdmul .always 35 31 52)
      && decodesTo [0x54, 0xF6, 0xFD, 0x81] (.stp (.test 5 .le) 33277)
      && decodesTo [0x01, 0xF7] (.sync .always)
      && decodesTo [0x01, 0xF8] (.memsb .always)
      && decodesTo [0x54, 0xF9] (.memdb (.test 5 .le))
      && decodesTo [0x01, 0xFA] (.cli .always)
      && decodesTo [0x01, 0xFB] (.sei .always)
      && decodesTo [0x54, 0xFC] (.rtd (.test 5 .le))
      && decodesTo [0x01, 0xFF] (.immFF .always)) = true := by decide +kernel

/-! ### Execution: one step for each vector of the spec -/

/-- V-CT1. -/
theorem test_br_forward : ends (run1 user [0x01, 0x30, 0x10]) (fun t => t.pc == 0x1013) = true := by decide +kernel

/-- V-CT3. -/
theorem test_br_backward : ends (run1 user [0x01, 0x38, 0x00]) (fun t => t.pc == 0x803) = true := by decide +kernel

/-- V-CT4. -/
theorem test_br_predicate_true : ends (run1 (user.setPred 1 1) [0x12, 0x30, 0x10]) (fun t => t.pc == 0x1013) = true
    := by decide +kernel

/-- V-CT5. -/
theorem test_br_predicate_false : ends (run1 (user.setPred 1 2) [0x12, 0x30, 0x10]) (fun t => t.pc == 0x1003) =
    true := by decide +kernel

/-- V-CT7. -/
theorem test_loop_taken : ends (run1 { user with lc := 2 } [0x01, 0xA4, 0xF0]) (fun t => t.pc == 0xFF3 && t.lc ==
    1) = true := by decide +kernel

/-- V-CT8. -/
theorem test_loop_done : ends (run1 { user with lc := 0 } [0x01, 0xA4, 0xF0]) (fun t => t.pc == 0x1003 && t.lc ==
    0) = true := by decide +kernel

/-- V-CT9. -/
theorem test_jsr6 : ends (run1 user [0x01, 0xA2, 0x01, 0x56, 0x34, 0x12]) (fun t => t.pc == 0x123456 && t.codeReg 0
    1 == 0x1006) = true := by decide +kernel

/-- V-CT10. -/
theorem test_jsr5_zero_extends : ends (run1 user [0x01, 0xA1, 0x00, 0x00, 0x80]) (fun t => t.pc == 0x8000) = true
    := by decide +kernel

/-- V-CT11. -/
theorem test_bsr_sign_extends : ends (run1 user [0x01, 0xA1, 0xF1, 0xFB, 0xFF]) (fun t => t.pc == 0x1000 &&
    t.codeReg 0 1 == 0x1005) = true := by decide +kernel

/-- V-CT13. -/
theorem test_jsr3_base_before_link : ends (run1 (user.setCodeReg 1 0x9000) [0x01, 0xA0, 0x11]) (fun t => t.pc ==
    0x9000 && t.codeReg 0 1 == 0x1003) = true := by decide +kernel

/-- V-CT14. -/
theorem test_jsr6_prefixed : ends (run1 user [0x40, 0x56, 0x34, 0x12, 0x01, 0xA2, 0x01, 0x78, 0x00, 0x00]) (fun t
    => t.pc == 0x12345678 && t.codeReg 0 1 == 0x100A) = true := by decide +kernel

/-- V-CT15. -/
theorem test_jci : ends (run1 (withBytes ((user.setPc 0x12340).setReg 6 3) 0x86 [0x21, 0x43]) [0x01, 0x8D, 0x46,
    0x04, 0xE8]) (fun t => t.pc == 0x14321 && t.codeReg 0 1 == 0x12345) = true := by decide +kernel

/-- V-CT16. -/
theorem test_rts3 : ends (run1 (user.setCodeReg 1 0x4006) [0x01, 0xA3, 0x12]) (fun t => t.pc == 0x4008) = true :=
    by decide +kernel

/-- V-CT17. -/
theorem test_rts1 : ends (run1 (user.setCodeReg 1 0x4006) [0x11]) (fun t => t.pc == 0x4006) = true := by
    decide +kernel

/-- V-CT18. -/
theorem test_rts4 : ends (run1 ((user.setCodeReg 1 0x4006).setReg 27 0xFF00) [0x01, 0xF2, 0x10, 0x10]) (fun t =>
    t.pc == 0x4006 && t.reg 27 == 0xFF10) = true := by decide +kernel

/-- V-CT19. -/
theorem test_br_wraps_low_half : ends (run1 (user.setPc 0xFFFFFFF0) [0x01, 0x30, 0x10]) (fun t => t.pc == 3) = true
    := by decide +kernel

/-- V-CP1. -/
theorem test_cmp_both_less : ends (run1 ((user.setReg 2 1).setReg 3 2) [0x01, 0x11, 0xC2, 0x00]) (fun t => t.pred 1
    == 6) = true := by decide +kernel

/-- V-CP2. -/
theorem test_cmp_signed_less : ends (run1 ((user.setReg 2 0xFFFFFFFFFFFFFFFF).setReg 3 1) [0x01, 0x11, 0xC2, 0x00])
    (fun t => t.pred 1 == 2) = true := by decide +kernel

/-- V-CP5. -/
theorem test_cmpi_unsigned_less : ends (run1 user [0x01, 0x23, 0xC2, 0xFF]) (fun t => t.pred 3 == 4) = true := by
    decide +kernel

/-- V-CP6. -/
theorem test_cmpi_equal : ends (run1 (user.setReg 2 0x1FF) [0x01, 0x23, 0xC2, 0x7F]) (fun t => t.pred 3 == 1) =
    true := by decide +kernel

/-- V-CP7. -/
theorem test_tst_negative : ends (run1 (user.setReg 4 0xFFFFFFFFFFFFFFFF) [0x01, 0x02, 0x04]) (fun t => t.pred 2 ==
    2) = true := by decide +kernel

/-- V-CP8. -/
theorem test_tst_zero : ends (run1 user [0x01, 0x02, 0x04]) (fun t => t.pred 2 == 1) = true := by decide +kernel

/-- 41_compare_predicate.md R225. -/
theorem test_biti_odd : ends (run1 (user.setReg 3 5) [0x01, 0x46, 0x43, 0x10, 0x00]) (fun t => t.pred 1 == 4) =
    true := by decide +kernel

/-- 41_compare_predicate.md R230. -/
theorem test_pand : ends (run1 ((user.setPred 0 1).setPred 1 3) [0x01, 0x42, 0x00, 0x81, 0x00]) (fun t => t.pred 2
    == 1) = true := by decide +kernel

/-- 41_compare_predicate.md R238. -/
theorem test_pnor_bit3 : ends (run1 user [0x01, 0x42, 0xC3, 0x30, 0x10]) (fun t => t.pred 0 == 8) = true := by
    decide +kernel

/-- V-AR1. -/
theorem test_add : ends (run1 ((user.setReg 1 2).setReg 2 3) [0x01, 0x40, 0x81, 0x30, 0x00]) (fun t => t.reg 3 == 5
    && t.pc == 0x1005) = true := by decide +kernel

/-- V-AR2. -/
theorem test_add_overflow : ends (run1 (((user.setReg 1 0x7FFFFFFFFFFFFFFF).setReg 2 1).setReg 3 0x55) [0x01, 0x40,
    0x81, 0x30, 0x00]) (fun t => t.reg 3 == 0x55 && t.codeReg 0 13 == 0x1000 && t.exl == 1 && t.exc == 240 && t.pc
    == 0xFFFFFFFFFFFF0F00) = true := by decide +kernel

/-- V-AR4. -/
theorem test_addu : ends (run1 ((user.setReg 1 0x7FFFFFFFFFFFFFFF).setReg 2 1) [0x01, 0x40, 0x81, 0x30, 0x10]) (fun
    t => t.reg 3 == 0x8000000000000000) = true := by decide +kernel

/-- V-AR5. -/
theorem test_sub : ends (run1 ((user.setReg 1 5).setReg 2 7) [0x01, 0x40, 0x81, 0x30, 0x04]) (fun t => t.reg 3 ==
    0xFFFFFFFFFFFFFFFE) = true := by decide +kernel

/-- V-AR6. -/
theorem test_div_by_zero : ends (run1 ((user.setReg 1 9).setReg 3 0x55) [0x01, 0x40, 0x01, 0x30, 0x0C]) (fun t =>
    t.reg 3 == 0x55 && t.codeReg 0 13 == 0x1000 && t.exc == 241 && t.pc == 0xFFFFFFFFFFFF0F10) = true := by
    decide +kernel

/-- V-AR7. -/
theorem test_div_truncates : ends (run1 ((user.setReg 1 0xFFFFFFFFFFFFFFF9).setReg 2 2) [0x01, 0x40, 0x81, 0x30,
    0x0C]) (fun t => t.reg 3 == 0xFFFFFFFFFFFFFFFD) = true := by decide +kernel

/-- V-AR8. -/
theorem test_div_overflow : ends (run1 ((user.setReg 1 0x8000000000000000).setReg 2 0xFFFFFFFFFFFFFFFF) [0x01,
    0x40, 0x81, 0x30, 0x0C]) (fun t => t.exc == 240) = true := by decide +kernel

/-- V-AR9. -/
theorem test_mul : ends (run1 ((user.setReg 1 0xFFFFFFFFFFFFFFFD).setReg 2 4) [0x01, 0x40, 0x81, 0x30, 0x08]) (fun
    t => t.reg 3 == 0xFFFFFFFFFFFFFFF4) = true := by decide +kernel

/-- V-AR10. -/
theorem test_mul_overflow : ends (run1 ((user.setReg 1 0x100000000).setReg 2 0x100000000) [0x01, 0x40, 0x81, 0x30,
    0x08]) (fun t => t.exc == 240) = true := by decide +kernel

/-- V-AR11. -/
theorem test_mulu : ends (run1 ((user.setReg 1 0xFFFFFFFFFFFFFFFF).setReg 2 2) [0x01, 0x40, 0x81, 0x30, 0x18]) (fun
    t => t.reg 3 == 0xFFFFFFFFFFFFFFFE) = true := by decide +kernel

/-- V-AR12. -/
theorem test_divu : ends (run1 ((user.setReg 1 0xFFFFFFFFFFFFFFFF).setReg 2 2) [0x01, 0x40, 0x81, 0x30, 0x1C]) (fun
    t => t.reg 3 == 0x7FFFFFFFFFFFFFFF) = true := by decide +kernel

/-- V-AR13. -/
theorem test_divu_by_zero_goes_on : ends (run1 (user.setReg 1 9) [0x01, 0x40, 0x01, 0x30, 0x1C]) (fun t => t.pc ==
    0x1005 && t.exc == 0) = true := by decide +kernel

/-- V-AR14. -/
theorem test_min : ends (run1 ((user.setReg 1 0xFFFFFFFFFFFFFFFF).setReg 2 1) [0x01, 0x40, 0x81, 0x30, 0x40]) (fun
    t => t.reg 3 == 0xFFFFFFFFFFFFFFFF) = true := by decide +kernel

/-- V-AR15. -/
theorem test_max : ends (run1 ((user.setReg 1 0xFFFFFFFFFFFFFFFF).setReg 2 1) [0x01, 0x40, 0x81, 0x30, 0x44]) (fun
    t => t.reg 3 == 1) = true := by decide +kernel

/-- V-AR16. -/
theorem test_addi : ends (run1 (user.setReg 4 10) [0x01, 0x48, 0x44, 0xF1, 0xFF]) (fun t => t.reg 5 == 9) = true :=
    by decide +kernel

/-- V-AR17. -/
theorem test_subi : ends (run1 user [0x01, 0x49, 0x81, 0x10, 0x00]) (fun t => t.reg 2 == 0xFFFFFFFFFFFFFFFF) = true
    := by decide +kernel

/-- V-AR18. -/
theorem test_muli : ends (run1 (user.setReg 1 0x15) [0x01, 0x4A, 0x81, 0xE0, 0xFF]) (fun t => t.reg 2 ==
    0xFFFFFFFFFFFFFFD6) = true := by decide +kernel

/-- V-AR19. -/
theorem test_addui : ends (run1 (user.setReg 2 0x100) [0x01, 0x4C, 0xC2, 0x00, 0xFF]) (fun t => t.reg 3 == 0xF0) =
    true := by decide +kernel

/-- V-AR20. -/
theorem test_adduiShort : ends (run1 (user.setReg 27 0x1000) [0x01, 0x47, 0x1B, 0xFE]) (fun t => t.reg 27 == 0xFF8)
    = true := by decide +kernel

/-- V-AR21. -/
theorem test_addi_prefixed : ends (run1 (user.setReg 1 1) [0x30, 0x34, 0x12, 0x01, 0x48, 0x81, 0x60, 0x05]) (fun t
    => t.reg 2 == 0x123457 && t.pc == 0x1008) = true := by decide +kernel

/-- V-AR24. -/
theorem test_ldi_prefix_sign_extends : ends (run1 user [0x20, 0x80, 0x01, 0x6F, 0x01, 0x0D]) (fun t => t.reg 1 ==
    0xFFFFFFFFFFFF8034) = true := by decide +kernel

/-- V-PX2. -/
theorem test_ldi_imm64 : ends (run1 user [0x80, 0x77, 0x66, 0x55, 0x44, 0x33, 0x22, 0x11, 0x01, 0x6F, 0x01, 0x22])
    (fun t => t.reg 1 == 0x1122334455667788 && t.pc == 0x100C) = true := by decide +kernel

/-- V-AR25. -/
theorem test_write_to_r0_discarded : ends (run1 user [0x01, 0x6F, 0x40, 0x01]) (fun t => t.reg 0 == 0) = true := by
    decide +kernel

/-- V-AR26. -/
theorem test_neg : ends (run1 (user.setReg 1 1) [0x01, 0xA7, 0x81, 0x10]) (fun t => t.reg 2 == 0xFFFFFFFFFFFFFFFF)
    = true := by decide +kernel

/-- V-AR27. -/
theorem test_abs_of_minimum : ends (run1 (user.setReg 1 0x8000000000000000) [0x01, 0xA7, 0x81, 0x30]) (fun t =>
    t.reg 2 == 0x8000000000000000) = true := by decide +kernel

/-- V-AR28. -/
theorem test_mov : ends (run1 (user.setReg 1 0x77) [0x01, 0xA7, 0x81, 0x00]) (fun t => t.reg 2 == 0x77) = true :=
    by decide +kernel

/-- V-AR29. -/
theorem test_addu2 : ends (run1 ((user.setReg 1 3).setReg 2 0x100) [0x01, 0x40, 0x81, 0x30, 0x20]) (fun t => t.reg
    3 == 0x106) = true := by decide +kernel

/-- 42_arithmetic.md R275. -/
theorem test_addui16 : ends (run1 (user.setReg 1 2) [0x01, 0x6E, 0x81, 0x50, 0x00]) (fun t => t.reg 2 == 0x25) =
    true := by decide +kernel

/-- V-AR30. -/
theorem test_bcdadd_carry_lost : ends (run1 ((user.setReg 1 0x99).setReg 2 1) [0x01, 0xF5, 0x81, 0x30, 0x00]) (fun
    t => t.reg 3 == 0) = true := by decide +kernel

/-- 42_arithmetic.md R287. -/
theorem test_bcdsub_wraps : ends (run1 (user.setReg 2 1) [0x01, 0xF5, 0x81, 0x30, 0x04]) (fun t => t.reg 3 == 0x99)
    = true := by decide +kernel

/-- 42_arithmetic.md R288. -/
theorem test_bcdmul : ends (run1 ((user.setReg 1 0x99).setReg 2 0x99) [0x01, 0xF5, 0x81, 0x30, 0x08]) (fun t =>
    t.reg 3 == 0x9801) = true := by decide +kernel

/-- 46_system.md R487. -/
theorem test_cpuid_name : ends (run1 (user.setReg 1 6) [0x01, 0x41, 0x81, 0x00]) (fun t => t.reg 2 == 0x726F6854) =
    true := by decide +kernel

/-- V-LG1 to V-LG8. -/
theorem test_and : ends (run1 ((user.setReg 1 12).setReg 2 10) [0x01, 0x50, 0x81, 0x30, 0x00]) (fun t => t.reg 3 ==
    8) = true := by decide +kernel

/-- V-LG1 to V-LG8. -/
theorem test_or : ends (run1 ((user.setReg 1 12).setReg 2 10) [0x01, 0x50, 0x81, 0x30, 0x04]) (fun t => t.reg 3 ==
    0xE) = true := by decide +kernel

/-- V-LG1 to V-LG8. -/
theorem test_eor : ends (run1 ((user.setReg 1 12).setReg 2 10) [0x01, 0x50, 0x81, 0x30, 0x08]) (fun t => t.reg 3 ==
    6) = true := by decide +kernel

/-- V-LG1 to V-LG8. -/
theorem test_nand : ends (run1 ((user.setReg 1 12).setReg 2 10) [0x01, 0x50, 0x81, 0x30, 0x0C]) (fun t => t.reg 3
    == 0xFFFFFFFFFFFFFFF7) = true := by decide +kernel

/-- V-LG1 to V-LG8. -/
theorem test_nor : ends (run1 ((user.setReg 1 12).setReg 2 10) [0x01, 0x50, 0x81, 0x30, 0x10]) (fun t => t.reg 3 ==
    0xFFFFFFFFFFFFFFF1) = true := by decide +kernel

/-- V-LG1 to V-LG8. -/
theorem test_enor : ends (run1 ((user.setReg 1 12).setReg 2 10) [0x01, 0x50, 0x81, 0x30, 0x14]) (fun t => t.reg 3
    == 0xFFFFFFFFFFFFFFF9) = true := by decide +kernel

/-- V-LG1 to V-LG8. -/
theorem test_andc : ends (run1 ((user.setReg 1 12).setReg 2 10) [0x01, 0x50, 0x81, 0x30, 0x18]) (fun t => t.reg 3
    == 4) = true := by decide +kernel

/-- V-LG1 to V-LG8. -/
theorem test_orc : ends (run1 ((user.setReg 1 12).setReg 2 10) [0x01, 0x50, 0x81, 0x30, 0x1C]) (fun t => t.reg 3 ==
    0xFFFFFFFFFFFFFFFD) = true := by decide +kernel

/-- V-LG9. -/
theorem test_andi : ends (run1 (user.setReg 1 0x12345) [0x01, 0x53, 0x81, 0x00, 0xFF]) (fun t => t.reg 2 ==
    0x12340) = true := by decide +kernel

/-- V-LG10. -/
theorem test_ori_sign_extends : ends (run1 (user.setReg 1 1) [0x01, 0x54, 0x81, 0x00, 0x80]) (fun t => t.reg 2 ==
    0xFFFFFFFFFFFFF801) = true := by decide +kernel

/-- V-LG11. -/
theorem test_eori : ends (run1 (user.setReg 1 0xF0) [0x01, 0x55, 0x81, 0xF0, 0xFF]) (fun t => t.reg 2 ==
    0xFFFFFFFFFFFFFF0F) = true := by decide +kernel

/-- 43_logic_shift_bitfield.md R312. -/
theorem test_mlo : ends (run1 (((user.setReg 1 12).setReg 2 10).setReg 3 2) [0x01, 0x51, 0x81, 0x30, 0x10]) (fun t
    => t.reg 4 == 6) = true := by decide +kernel

/-- V-LG12. -/
theorem test_not : ends (run1 (user.setReg 1 5) [0x01, 0xA7, 0x81, 0x20]) (fun t => t.reg 2 == 0) = true := by
    decide +kernel

/-- V-LG13. -/
theorem test_com : ends (run1 user [0x01, 0xA7, 0x81, 0xB0]) (fun t => t.reg 2 == 0xFFFFFFFFFFFFFFFF) = true := by
    decide +kernel

/-- V-LG14. -/
theorem test_shli : ends (run1 (user.setReg 1 1) [0x01, 0x58, 0xC1, 0x2F, 0x40]) (fun t => t.reg 2 ==
    0x8000000000000000) = true := by decide +kernel

/-- V-LG15. -/
theorem test_shl_modulo_64 : ends (run1 ((user.setReg 1 3).setReg 2 0x40) [0x01, 0x58, 0x81, 0x30, 0x00]) (fun t =>
    t.reg 3 == 3) = true := by decide +kernel

/-- V-LG16. -/
theorem test_shri : ends (run1 (user.setReg 1 0x8000000000000000) [0x01, 0x58, 0x01, 0x21, 0x44]) (fun t => t.reg 2
    == 0xF800000000000000) = true := by decide +kernel

/-- V-LG17. -/
theorem test_shrui : ends (run1 (user.setReg 1 0x8000000000000000) [0x01, 0x58, 0x01, 0x21, 0x4C]) (fun t => t.reg
    2 == 0x0800000000000000) = true := by decide +kernel

/-- V-LG18. -/
theorem test_roli : ends (run1 (user.setReg 1 0x8000000000000001) [0x01, 0x58, 0x41, 0x20, 0x50]) (fun t => t.reg 2
    == 3) = true := by decide +kernel

/-- V-LG19. -/
theorem test_rori : ends (run1 (user.setReg 1 3) [0x01, 0x58, 0x41, 0x20, 0x54]) (fun t => t.reg 2 ==
    0x8000000000000001) = true := by decide +kernel

/-- V-LG20. -/
theorem test_sxb : ends (run1 (user.setReg 1 0x80) [0x01, 0xA7, 0x81, 0x80]) (fun t => t.reg 2 ==
    0xFFFFFFFFFFFFFF80) = true := by decide +kernel

/-- V-LG21. -/
theorem test_sxc : ends (run1 (user.setReg 1 0x18000) [0x01, 0xA7, 0x81, 0x90]) (fun t => t.reg 2 ==
    0xFFFFFFFFFFFF8000) = true := by decide +kernel

/-- V-LG22. -/
theorem test_sxh : ends (run1 (user.setReg 1 0x80000000) [0x01, 0xA7, 0x81, 0xA0]) (fun t => t.reg 2 ==
    0xFFFFFFFF80000000) = true := by decide +kernel

/-- V-LG23. -/
theorem test_zxb : ends (run1 (user.setReg 1 0xFFFFFFFFFFFFFF80) [0x01, 0xA7, 0x81, 0xC0]) (fun t => t.reg 2 ==
    0x80) = true := by decide +kernel

/-- V-LG24. -/
theorem test_zxc : ends (run1 (user.setReg 1 0xFFFFFFFFFFFFFFFF) [0x01, 0xA7, 0x81, 0xD0]) (fun t => t.reg 2 ==
    0xFFFF) = true := by decide +kernel

/-- V-LG25. -/
theorem test_zxh : ends (run1 (user.setReg 1 0xFFFFFFFFFFFFFFFF) [0x01, 0xA7, 0x81, 0xE0]) (fun t => t.reg 2 ==
    0xFFFFFFFF) = true := by decide +kernel

/-- V-LG26. -/
theorem test_bfextu : ends (run1 (user.setReg 1 0xF0) [0x01, 0xAA, 0x81, 0x40, 0x1C, 0x04]) (fun t => t.reg 2 ==
    0xF) = true := by decide +kernel

/-- V-LG27. -/
theorem test_bfext : ends (run1 (user.setReg 1 0xF0) [0x01, 0xAA, 0x81, 0x40, 0x1C, 0x05]) (fun t => t.reg 2 ==
    0xFFFFFFFFFFFFFFFF) = true := by decide +kernel

/-- V-LG28. -/
theorem test_bfins : ends (run1 ((user.setReg 1 5).setReg 2 0xFFFF) [0x01, 0xAA, 0x81, 0x40, 0x1C, 0x00]) (fun t =>
    t.reg 2 == 0xFF5F) = true := by decide +kernel

/-- V-LG29. -/
theorem test_cntlz : ends (run1 (user.setReg 1 1) [0x01, 0xA7, 0x81, 0x50]) (fun t => t.reg 2 == 63) = true := by
    decide +kernel

/-- V-LG29. -/
theorem test_cntlz_of_zero : ends (run1 user [0x01, 0xA7, 0x81, 0x50]) (fun t => t.reg 2 == 64) = true := by
    decide +kernel

/-- 43_logic_shift_bitfield.md R341. -/
theorem test_cntlo : ends (run1 (user.setReg 1 0xF000000000000000) [0x01, 0xA7, 0x81, 0x60]) (fun t => t.reg 2 ==
    4) = true := by decide +kernel

/-- 43_logic_shift_bitfield.md R342. -/
theorem test_cntpop : ends (run1 (user.setReg 1 0xFF) [0x01, 0xA7, 0x81, 0x70]) (fun t => t.reg 2 == 8) = true :=
    by decide +kernel

/-- V-LG30. -/
theorem test_mux : ends (run1 (((user.setReg 1 0xF0).setReg 2 0xAA).setReg 3 0x55) [0x01, 0x72, 0x81, 0x30, 0x10])
    (fun t => t.reg 4 == 0xA5) = true := by decide +kernel

/-- V-LS1. -/
theorem test_lw : ends (run1 ((withBytes user 0x2000 [0x88, 0x77, 0x66, 0x55, 0x44, 0x33, 0x22, 0x11]).setReg 2
    0x1FF8) [0x01, 0x86, 0xC2, 0x80, 0x20]) (fun t => t.reg 3 == 0x1122334455667788) = true := by decide +kernel

/-- V-LS2. -/
theorem test_lb : ends (run1 ((withBytes user 0x2000 [0x88, 0x77, 0x66, 0x55, 0x44, 0x33, 0x22, 0x11]).setReg 2
    0x2000) [0x01, 0x80, 0xC2, 0x00, 0x20]) (fun t => t.reg 3 == 0xFFFFFFFFFFFFFF88) = true := by decide +kernel

/-- V-LS3. -/
theorem test_lbu : ends (run1 ((withBytes user 0x2000 [0x88, 0x77, 0x66, 0x55, 0x44, 0x33, 0x22, 0x11]).setReg 2
    0x2000) [0x01, 0x81, 0xC2, 0x00, 0x20]) (fun t => t.reg 3 == 0x88) = true := by decide +kernel

/-- V-LS4. -/
theorem test_lc : ends (run1 ((withBytes user 0x2000 [0x00, 0x80]).setReg 2 0x2000) [0x01, 0x82, 0xC2, 0x00, 0x20])
    (fun t => t.reg 3 == 0xFFFFFFFFFFFF8000) = true := by decide +kernel

/-- V-LS5. -/
theorem test_lcu : ends (run1 ((withBytes user 0x2000 [0x00, 0x80]).setReg 2 0x2000) [0x01, 0x83, 0xC2, 0x00,
    0x20]) (fun t => t.reg 3 == 0x8000) = true := by decide +kernel

/-- V-LS6. -/
theorem test_lh : ends (run1 ((withBytes user 0x2000 [0x88, 0x77, 0x66, 0x55, 0x44, 0x33, 0x22, 0x11]).setReg 2
    0x2000) [0x01, 0x84, 0xC2, 0x40, 0x20]) (fun t => t.reg 3 == 0x11223344) = true := by decide +kernel

/-- V-LS7. -/
theorem test_lhu : ends (run1 ((withBytes user 0x2000 [0x00, 0x00, 0x00, 0x80]).setReg 2 0x2004) [0x01, 0x85, 0xC2,
    0xC0, 0x3F]) (fun t => t.reg 3 == 0x80000000) = true := by decide +kernel

/-- V-LS8. -/
theorem test_lw_segment_base : ends (run1 ((((withBytes user 0x2008 [0x01, 0x02, 0x03, 0x04, 0x05, 0x06, 0x07,
    0x08]).setReg 2 8).setSegment 1 0x2FFF).syncSegments) [0x01, 0x86, 0xC2, 0x00, 0x20]) (fun t => t.reg 3 ==
    0x0807060504030201) = true := by decide +kernel

/-- V-LS9. -/
theorem test_lw_to_r0_prefetches : ends (run1 (user.setReg 2 0x2001) [0x01, 0x86, 0x02, 0x00, 0x20]) (fun t => t.pc
    == 0x1005) = true := by decide +kernel

/-- V-LS11. -/
theorem test_sw : ends (run1 ((user.setReg 2 0x3000).setReg 3 0x1122334455667788) [0x01, 0x93, 0xC2, 0x00, 0x20])
    (fun t => t.mem.readList 0x3000 8 == [0x88, 0x77, 0x66, 0x55, 0x44, 0x33, 0x22, 0x11]) = true := by
    decide +kernel

/-- V-LS12. -/
theorem test_sh : ends (run1 ((user.setReg 2 0x3000).setReg 3 0x1122334455667788) [0x01, 0x92, 0xC2, 0x00, 0x20])
    (fun t => t.mem.readList 0x3000 5 == [0x88, 0x77, 0x66, 0x55, 0]) = true := by decide +kernel

/-- V-LS13. -/
theorem test_sc : ends (run1 ((user.setReg 2 0x3000).setReg 3 0x1122334455667788) [0x01, 0x91, 0xC2, 0x20, 0x20])
    (fun t => t.mem.readList 0x3002 3 == [0x88, 0x77, 0]) = true := by decide +kernel

/-- V-LS14. -/
theorem test_sb : ends (run1 ((user.setReg 2 0x3000).setReg 3 0x1122334455667788) [0x01, 0x90, 0xC2, 0x70, 0x20])
    (fun t => t.mem.readList 0x3007 2 == [0x88, 0]) = true := by decide +kernel

/-- V-LS15. -/
theorem test_lwx : ends (run1 (((withBytes user 0x2008 [0x09]).setReg 1 0x2000).setReg 2 1) [0x01, 0xB6, 0x81,
    0x30, 0x2C]) (fun t => t.reg 3 == 9) = true := by decide +kernel

/-- V-LS16. -/
theorem test_swx : ends (run1 (((user.setReg 1 0x3000).setReg 2 1).setReg 3 0xABCD) [0x01, 0xC3, 0x81, 0x30, 0x2C])
    (fun t => t.mem.readList 0x3008 3 == [0xCD, 0xAB, 0]) = true := by decide +kernel

/-- V-LS17. -/
theorem test_lw_prefixed : ends (run1 (withBytes user 0x1230 [0xEF, 0xBE]) [0x20, 0x12, 0x01, 0x86, 0xC2, 0x00,
    0x23]) (fun t => t.reg 3 == 0xBEEF && t.pc == 0x1007) = true := by decide +kernel

/-- V-LS18. -/
theorem test_lwShort : ends (run1 ((withBytes user 0x2000 [0x88, 0x77, 0x66, 0x55, 0x44, 0x33, 0x22, 0x11]).setReg
    2 0x2000) [0x01, 0xD6, 0xC2, 0x20]) (fun t => t.reg 3 == 0x1122334455667788) = true := by decide +kernel

/-- V-LS19. -/
theorem test_sti : ends (run1 (user.setReg 1 0x3000) [0x01, 0x96, 0x41, 0x01, 0x20]) (fun t => t.mem.readList
    0x3000 2 == [5, 0]) = true := by decide +kernel

/-- V-LS20. -/
theorem test_cas_succeeds : ends (run1 ((user.setReg 1 0x3000).setReg 3 1) [0x01, 0x97, 0x81, 0x30, 0x10, 0x00])
    (fun t => t.mem.read 0x3000 == 1 && t.reg 4 == 0) = true := by decide +kernel

/-- V-LS21. -/
theorem test_cas_fails : ends (run1 (((withBytes user 0x3000 [0x01]).setReg 1 0x3000).setReg 3 2) [0x01, 0x97,
    0x81, 0x30, 0x10, 0x00]) (fun t => t.mem.read 0x3000 == 1 && t.reg 4 == 1) = true := by decide +kernel

/-- V-LS22. -/
theorem test_inc_byte : ends (run1 ((withBytes user 0x3000 [0xFF]).setReg 1 0x3000) [0x01, 0xC7, 0x01, 0x00, 0x20,
    0x01]) (fun t => t.mem.readList 0x3000 2 == [0, 0]) = true := by decide +kernel

/-- V-LS23. -/
theorem test_inc_word : ends (run1 (user.setReg 1 0x3000) [0x01, 0xC7, 0xC1, 0x80, 0x20, 0xFF]) (fun t =>
    t.mem.readList 0x3008 9 == [0xFF, 0xFF, 0xFF, 0xFF, 0xFF, 0xFF, 0xFF, 0xFF, 0]) = true := by decide +kernel

/-- V-LS24. -/
theorem test_lvwar : ends (run1 ((withBytes user 0x3000 [0x07]).setReg 1 0x3000) [0x01, 0x8B, 0xC1, 0x00, 0x20])
    (fun t => t.reg 3 == 7 && t.reservation == some 0x3000) = true := by decide +kernel

/-- V-LS24. -/
theorem test_swcr_reserved : ends (run1 (({ (withBytes user 0x3000 [0x07]) with reservation := some 0x3000 }.setReg
    1 0x3000).setReg 3 9) [0x01, 0x8C, 0xC1, 0x00, 0x20]) (fun t => t.mem.read 0x3000 == 9 && t.pred 0 == 0 &&
    t.reservation == none) = true := by decide +kernel

/-- V-LS25. -/
theorem test_swcr_not_reserved : ends (run1 (((withBytes user 0x3000 [0x07]).setReg 1 0x3000).setReg 3 9) [0x01,
    0x8C, 0xC1, 0x00, 0x20]) (fun t => t.mem.read 0x3000 == 7 && t.pred 0 == 1) = true := by decide +kernel

/-- V-ST1. -/
theorem test_stset_one_element : ends (run1 (({ user with lc := 3 }.setReg 1 0x3000).setReg 2 0xAA) [0x01, 0x98,
    0x81, 0x00, 0x20]) (fun t => t.mem.readList 0x3000 2 == [0xAA, 0] && t.reg 1 == 0x3001 && t.lc == 2 && t.pc ==
    0x1000) = true := by decide +kernel

/-- V-ST6. -/
theorem test_stset_decrementing : ends (run1 (({ user with lc := 1 }.setReg 1 0x3008).setReg 2 0xFFFFFFFFFFFFFFFF)
    [0x01, 0x98, 0x81, 0x00, 0x3C]) (fun t => t.mem.read 0x300F == 0xFF && t.reg 1 == 0x3000 && t.lc == 0 && t.pc
    == 0x1005) = true := by decide +kernel

/-- V-ST2. -/
theorem test_stmov : ends (run1 (((withBytes { user with lc := 1 } 0x2000 [0x0A]).setReg 1 0x2000).setReg 2 0x3000)
    [0x01, 0x99, 0x81, 0x30, 0x2C]) (fun t => t.mem.read 0x3000 == 10 && t.reg 3 == 8 && t.lc == 0) = true := by
    decide +kernel

/-- V-ST3. -/
theorem test_stcmp_mismatch : ends (run1 (((withBytes (withBytes { user with lc := 2 } 0x2000 [0x03]) 0x3000
    [0x09]).setReg 1 0x2000).setReg 2 0x3000) [0x01, 0x9A, 0x81, 0x30, 0x20]) (fun t => t.reg 3 == 0 && t.lc == 0
    && t.pc == 0x1005) = true := by decide +kernel

/-- V-ST4. -/
theorem test_stfnd_match : ends (run1 (({ user with lc := 3 }.setReg 1 0x2000).setReg 3 5) [0x01, 0x9B, 0x81, 0x30,
    0x20]) (fun t => t.reg 3 == 5 && t.lc == 0) = true := by decide +kernel

/-- V-ST5. -/
theorem test_string_lc_zero : ends (run1 user [0x01, 0x99, 0x81, 0x30, 0x2C]) (fun t => t.pc == 0x1005) = true :=
    by decide +kernel

/-- V-SY1. -/
theorem test_mtspr_lc : ends (run1 (user.setReg 2 9) [0x01, 0xA9, 0xC2, 0x0C]) (fun t => t.lc == 9) = true := by
    decide +kernel

/-- V-SY2. -/
theorem test_mfspr_lc : ends (run1 { user with lc := 9 } [0x01, 0xA8, 0xF3, 0x00]) (fun t => t.reg 3 == 9) = true
    := by decide +kernel

/-- V-SY3. -/
theorem test_mtspr_predicate : ends (run1 (user.setReg 2 0xFF) [0x01, 0xA9, 0x42, 0x01]) (fun t => t.pred 5 == 15)
    = true := by decide +kernel

/-- V-SY4. -/
theorem test_mfspr_c15_is_npc : ends (run1 user [0x01, 0xA8, 0xDF, 0x00]) (fun t => t.reg 3 == 0x1004) = true := by
    decide +kernel

/-- V-SY6. -/
theorem test_ldis : ends (run1 user [0x01, 0x9D, 0x11, 0x40]) (fun t => t.codeReg 0 1 == 0x100) = true := by
    decide +kernel

/-- V-SY7. -/
theorem test_mtspr_pregs : ends (run1 (user.setReg 2 0x21) [0x01, 0xA9, 0x02, 0x0D]) (fun t => t.pred 0 == 1 &&
    t.pred 1 == 2 && t.pred 2 == 0) = true := by decide +kernel

/-- V-SY8. -/
theorem test_sys : ends (run1 user [0x01, 0xA5, 0xCD, 0x04]) (fun t => t.codeReg 0 13 == 0x1004 && t.exl == 1 &&
    t.exc == 0 && t.pc == 0xFFFFFFFFFFFF0040) = true := by decide +kernel

/-- V-SY9. -/
theorem test_brk : ends (run1 user [0x00]) (fun t => t.codeReg 0 13 == 0x1000 && t.exl == 1 && t.pc ==
    0xFFFFFFFFFFFF0000) = true := by decide +kernel

/-- V-SY10. -/
theorem test_cli : ends (run1 { user with exl := 1 } [0x01, 0xFA]) (fun t => !t.interruptMask) = true := by
    decide +kernel

/-- V-SY11. -/
theorem test_cli_in_application_mode : ends (run1 user [0x01, 0xFA]) (fun t => t.interruptMask && t.codeReg 0 13 ==
    0x1000 && t.exc == 245 && t.pc == 0xFFFFFFFFFFFF0F50) = true := by decide +kernel

/-- V-SY12. -/
theorem test_tlbwrreg : ends (run1 ({ user with exl := 1 }.setReg 1 0x12345) [0x01, 0xF0, 0x48, 0x01]) (fun t =>
    t.tlb.virtPage == 0x12345) = true := by decide +kernel

/-- V-SY13. -/
theorem test_tlben : ends (run1 { user with exl := 1 } [0x01, 0xF0, 0x05, 0x00]) (fun t => t.tlb.enabled) = true :=
    by decide +kernel

/-- V-SY14. -/
theorem test_stp_stops : ends (run1 user [0x01, 0xF6, 0x00, 0x00]) (fun t => t.clk.stopped) = true := by
    decide +kernel

/-- V-SY15. -/
theorem test_sync : ends (run1 (user.setCodeReg 12 0xFFFFFFFFFFFA0000) [0x01, 0xF7]) (fun t => t.c12Used ==
    0xFFFFFFFFFFFA0000) = true := by decide +kernel

/-- V-SY16. -/
theorem test_nop1 : ends (run1 user [0x10]) (fun t => t.pc == 0x1001) = true := by decide +kernel

/-- V-SY16. -/
theorem test_nop2 : ends (run1 user [0x01, 0xF1]) (fun t => t.pc == 0x1002) = true := by decide +kernel

/-- V-PX7. -/
theorem test_illegal_opcode : ends (run1 user [0x01, 0x60]) (fun t => t.codeReg 0 13 == 0x1000 && t.exl == 1 &&
    t.exc == 250 && t.pc == 0xFFFFFFFFFFFF0FA0) = true := by decide +kernel

/-- 60_exceptions.md R605 item 5. -/
theorem test_illegal_opcode_reserved_predicate : ends (run1 user [0x1C, 0x60]) (fun t => t.exl == 1 && t.exc ==
    250) = true := by decide +kernel

/-- 60_exceptions.md R595. -/
theorem test_single_step : ends (run1 { user with dbg := { user.dbg with ctrl := 0x80 } } [0x10]) (fun t => t.exc
    == 243 && t.codeReg 0 11 == 0x1001) = true := by decide +kernel

/-- 60_exceptions.md R605 item 6. -/
theorem test_single_step_not_after_skip : ends (run1 { user with dbg := { user.dbg with ctrl := 0x80 } } [0x27,
    0x40, 0x81, 0x30, 0x00]) (fun t => t.exc == 0 && t.pc == 0x1005) = true := by decide +kernel

/-- 10_state.md R38. -/
theorem test_int_backs_up_kernel_mode : ends (run1 { user with exl := 1 } [0x01, 0xA6, 0xCE, 0x04]) (fun t =>
    t.sr.getLsbD 29 && t.sr.getLsbD 31 && t.hwi) = true := by decide +kernel

/-- 10_state.md R38. -/
theorem test_int_backs_up_application_mode : ends (run1 user [0x01, 0xA6, 0xCE, 0x04]) (fun t => !t.sr.getLsbD 29
    && t.sr.getLsbD 31 && t.hwi) = true := by decide +kernel

/-- V-PX8. -/
theorem test_false_predicate_no_overflow : ends (run1 ((user.setReg 1 0x7FFFFFFFFFFFFFFF).setReg 2 1) [0x27, 0x40,
    0x81, 0x30, 0x00]) (fun t => t.pc == 0x1005 && t.exc == 0) = true := by decide +kernel

/-- V-LS10. -/
theorem test_refused_misaligned : stopsWith (run1 (user.setReg 2 0x2001) [0x01, 0x86, 0xC2, 0x00, 0x20])
    .misaligned = true := by decide +kernel

/-- V-PX4. -/
theorem test_refused_reserved_condition : stopsWith (run1 user [0x1C, 0x40, 0x81, 0x30, 0x00]) .reservedPredicate =
    true := by decide +kernel

/-- V-PX5. -/
theorem test_refused_two_prefixes : stopsWith (run1 user [0x20, 0x12, 0x20, 0x34, 0x01, 0x6F, 0x01, 0x0D])
    .immediateNotTaken = true := by decide +kernel

/-- V-PX6. -/
theorem test_refused_prefix_before_br : stopsWith (run1 user [0x20, 0x12, 0x01, 0x30, 0x10]) .immediateNotTaken =
    true := by decide +kernel

/-! ### Witnesses: states and operands that meet the hypotheses of the statements -/

/-- `user` in kernel mode. -/
def system : State := { user with exl := 1 }

/-- `user` with all data and code through the TLB. -/
def paged (es : List (Nat × TlbEntry)) : State :=
  { user with
    tlb := { user.tlb with
      enabled := true
      entries := es.foldl (fun v e => v.setIfInBounds e.1 e.2) user.tlb.entries } }

/-- A valid global entry that maps virtual page `vp` to physical page `pp`. -/
def entryOf (vp pp : BitVec 52) : TlbEntry :=
  { TlbEntry.zero with virtPage := vp, physPage := pp, g := true, v := true }

/-- `user` with debug register 0 on `va`; match type and enable in `ctrl`. -/
def watched (va ctrl : Word) : State :=
  { user with dbg := { user.dbg with addr := user.dbg.addr.set 0 va, ctrl := ctrl } }

/-- `user` with a bus error on fetches, reads and writes of 16 bytes at `a`. -/
def broken (a : Nat) : State :=
  { user with
    platform := { user.platform with
      busErrors := [{ region := { start := a, size := 16 }, onFetch := true, onRead := true, onWrite := true }] } }

/-- `user` with the limit of segment register `sg` at 0. -/
def limited (sg : SegReg) : State := (user.setLimit sg 0).syncSegments

theorem executes_of {s : State} {q : Pred} {rs : List Reg} (h : (s.holds q && s.allows rs) = true) :
    s.Executes q rs := by
  rw [Bool.and_eq_true] at h
  exact ⟨h.1, h.2⟩

theorem inArea_of {s : State} {v : BitVec 8} (h : ((s.vectorBase + 16 * zext v).extractLsb' 60 4 == 15) = true) :
    s.vectorInArea v := by simpa [State.vectorInArea] using h

theorem notInArea_of {s : State} {v : BitVec 8} (h : ((s.vectorBase + 16 * zext v).extractLsb' 60 4 == 15) = false) :
    ¬s.vectorInArea v := by simpa [State.vectorInArea] using h

/-- The check of a data access answers the address it reaches. -/
theorem reaches_of {s : State} {k : AccessKind} {slot : Nat} {sg : SegReg} {off : Word} {n : Nat} {p : Phys}
    (h : (match dataCheck s k slot sg off n with
      | .ok p' => p' == p
      | _ => false) = true) : s.Reaches k slot sg off n p := by
  refine dataCheck_ok_iff.mp ?_
  split at h
  · rename_i h'
    rw [h', eq_of_beq h]
  · cases h

theorem quiet_of {s : State} (h : (!s.pins.rst && !s.clk.stopped && !takesNmi s && !takesIrq s) = true) :
    s.Quiet := by
  simp only [Bool.and_eq_true, Bool.not_eq_true'] at h
  exact ⟨h.1.1.1, h.1.1.2, h.1.2, h.2⟩

/-- What `CodeIs` asks of byte `k`, as a test. -/
def codeByteIs (s : State) (k : Nat) (b : Byte) : Bool :=
  match fetchAddress s k with
  | .ok p =>
    !s.isDevice p.pa.toNat && (s.uncached p || s.stale.all fun e => e.addr != p.pa.toNat) && s.mem.read p.pa.toNat == b
  | _ => false

/-- What `CodeIs` asks of the bytes from `k` on, as a test. -/
def codeIsFrom (s : State) (k : Nat) : List Byte → Bool
  | [] => true
  | b :: bs => codeByteIs s k b && codeIsFrom s (k + 1) bs

theorem codeIs_of {s : State} {bs : List Byte} (h : codeIsFrom s 0 bs = true) : s.CodeIs bs := by
  have key : ∀ (l : List Byte) (j : Nat), codeIsFrom s j l = true → ∀ k (hk : k < l.length),
      codeByteIs s (j + k) l[k] = true := by
    intro l
    induction l with
    | nil => intro j _ k hk; simp at hk
    | cons b bs ih =>
      intro j hj k hk
      simp only [codeIsFrom, Bool.and_eq_true] at hj
      cases k with
      | zero => exact hj.1
      | succ k =>
        have := ih (j + 1) hj.2 k (by simpa using hk)
        rw [show j + (k + 1) = j + 1 + k by omega]
        simpa using this
  intro k hk
  have hb := key bs 0 h k hk
  rw [Nat.zero_add] at hb
  unfold codeByteIs at hb
  split at hb
  · rename_i a ha
    simp only [Bool.and_eq_true, Bool.or_eq_true, Bool.not_eq_true', List.all_eq_true, bne_iff_ne, ne_eq,
      beq_iff_eq] at hb
    exact ⟨a, ha, hb.1.1, hb.1.2, hb.2⟩
  · cases hb

theorem unwatched_of {s : State} (h : (debugHits (debugFetchMatch s.dbg (s.fetchVa 8 s.pc)) == 0) = true) :
    s.Unwatched := eq_of_beq h

theorem some_next {r : Result} (h : ends r (fun _ => true) = true) : ∃ t, r = .next t := by
  cases r <;> simp_all [ends]

/-- The unit that a fetch answers, as a test. -/
def fetches (s : State) (u : UnitBytes) : Bool :=
  match fetchUnitBytes s with
  | .ok u' => u' == u
  | _ => false

theorem fetches_of {s : State} {u : UnitBytes} (h : fetches s u = true) : fetchUnitBytes s = .ok u := by
  unfold fetches at h
  split at h
  · rename_i h'
    rw [h', eq_of_beq h]
  · cases h

/-- ADD r3, r1, r2. -/
def addBytes : List Byte := [0x01, 0x40, 0x81, 0x30, 0x00]

/-- ADDI r1, r0 with an IMM16 prefix. -/
def prefixedBytes : List Byte := [0x20, 0x12, 0x01, 0x48, 0x40, 0x40, 0x03]

/-- For InstructionLengths, each clause, the first and last prefix. -/
theorem witness_instructionLengths :
    (decode addBytes = .ok (.add .always 3 1 2) ∧ mapOnly (.add .always 3 1 2) = false) ∧
    (firstByte 0x01 = .pred .always ∧ tableLength 0x01 0x40 = some 5) ∧
    (firstByte 0x20 = .imm 1 ∧ firstByte 0x80 = .imm 7) ∧
    (tableLength 0x01 0x60 = none ∧ 0x60 ∉ mapOnlyOpcodes) := by decide +kernel

/-- For StepRunsDecodedInstruction: a unit without and one with a prefix. -/
theorem witness_stepRunsDecodedInstruction :
    ((beginStep (withBytes user 0x1000 addBytes)).Quiet ∧ (beginStep (withBytes user 0x1000 addBytes)).Unwatched ∧
      fetchUnitBytes (beginStep (withBytes user 0x1000 addBytes)) = .ok { prefixBytes := none, body := addBytes } ∧
      decode addBytes = .ok (.add .always 3 1 2)) ∧
    ((beginStep (withBytes user 0x1000 prefixedBytes)).Quiet ∧
      (beginStep (withBytes user 0x1000 prefixedBytes)).Unwatched ∧
      fetchUnitBytes (beginStep (withBytes user 0x1000 prefixedBytes)) =
        .ok { prefixBytes := some (prefixedBytes.take 2), body := prefixedBytes.drop 2 } ∧
      decode (prefixedBytes.take 2) = .ok (.imm16 0x12) ∧
      decode (prefixedBytes.drop 2) = .ok (.addi .always 1 0 0x34) ∧ takesImmediate (.addi .always 1 0 0x34) = true) ∧
    singleSteps user (.add .always 3 1 2) user = false :=
  ⟨⟨quiet_of (by decide +kernel), unwatched_of (by decide +kernel), fetches_of (by decide +kernel), by decide +kernel⟩,
    ⟨quiet_of (by decide +kernel), unwatched_of (by decide +kernel), fetches_of (by decide +kernel), by decide +kernel,
      by decide +kernel, by decide +kernel⟩, by decide +kernel⟩

/-- For EncodedInstructionRuns. -/
theorem witness_encodedInstructionRuns :
    (beginStep (withBytes user 0x1000 addBytes)).Quiet ∧ (beginStep (withBytes user 0x1000 addBytes)).Unwatched ∧
    mapOnly (.add .always 3 1 2) = false ∧ isPrefix (encode (.add .always 3 1 2)) = false ∧
    (beginStep (withBytes user 0x1000 addBytes)).CodeIs (encode (.add .always 3 1 2)) :=
  ⟨quiet_of (by decide +kernel), unwatched_of (by decide +kernel), by decide +kernel, by decide +kernel,
    codeIs_of (by decide +kernel)⟩

/-- `user` on a page that is not cached, a stale byte left where it fetches. -/
def uncachedCode : State :=
  { paged [(1, { entryOf 1 8 with c := 1 })] with
    mem := [(0x8000, 0x10)]
    stale := [{ addr := 0x8000, old := 0, invalidated := false }] }

/-- 20_memory.md R105: a fetch through a page that is not cached sees no stale byte. -/
theorem test_uncached_fetch : fetches uncachedCode { prefixBytes := none, body := [0x10] } = true := by decide +kernel

/-- For EncodedInstructionRuns, where a stale byte is left and the page is not cached. -/
theorem witness_encodedInstructionRuns_uncached : (beginStep uncachedCode).CodeIs (encode .nop1) :=
  codeIs_of (by decide +kernel)

/-- For PrefixedInstructionRuns. -/
theorem witness_prefixedInstructionRuns :
    (beginStep (withBytes user 0x1000 prefixedBytes)).Quiet ∧
    (beginStep (withBytes user 0x1000 prefixedBytes)).Unwatched ∧ isPrefix (encode (.imm16 0x12)) = true ∧
    takesImmediate (.addi .always 1 0 0x34) = true ∧
    (beginStep (withBytes user 0x1000 prefixedBytes)).CodeIs
      (encode (.imm16 0x12) ++ encode (.addi .always 1 0 0x34)) :=
  ⟨quiet_of (by decide +kernel), unwatched_of (by decide +kernel), by decide +kernel, by decide +kernel,
    codeIs_of (by decide +kernel)⟩

/-- For RejectedUnits: an undefined opcode, an undefined function, a reserved predicate over an instruction and over an
undefined opcode, a prefix before BR. -/
theorem witness_rejectedUnits :
    ((beginStep (withBytes user 0x1000 [0x01, 0x60])).Quiet ∧
      (beginStep (withBytes user 0x1000 [0x01, 0x60])).Unwatched ∧
      fetchUnitBytes (beginStep (withBytes user 0x1000 [0x01, 0x60])) =
        .ok { prefixBytes := none, body := [0x01, 0x60] } ∧
      decode [0x01, 0x60] = .error .undefinedOpcode ∧
      (beginStep (withBytes user 0x1000 [0x01, 0x60])).vectorInArea 250) ∧
    decode [0x01, 0x40, 0, 0, 0xFC] = .error .undefinedFunction ∧
    fetchUnitBytes (beginStep (withBytes user 0x1000 [0x1C, 0x30, 0x10])) =
      .ok { prefixBytes := none, body := [0x1C, 0x30, 0x10] } ∧
    decode [0x1C, 0x30, 0x10] = .error .reservedPredicate ∧ decode [0xF1, 0x60] = .error .undefinedOpcode ∧
    fetchUnitBytes (beginStep (withBytes user 0x1000 [0x20, 0x12, 0x01, 0x30, 0x10])) =
      .ok { prefixBytes := some [0x20, 0x12], body := [0x01, 0x30, 0x10] } ∧
    decode [0x01, 0x30, 0x10] = .ok (.br .always 16) ∧ takesImmediate (.br .always 16) = false :=
  ⟨⟨quiet_of (by decide +kernel), unwatched_of (by decide +kernel), fetches_of (by decide +kernel), by decide +kernel,
      inArea_of (by decide +kernel)⟩, by decide +kernel, fetches_of (by decide +kernel), by decide +kernel,
    by decide +kernel, fetches_of (by decide +kernel), by decide +kernel, by decide +kernel⟩

/-- For FetchFaultsTaken: the limit, a miss, an instruction match, a bus error. -/
theorem witness_fetchFaultsTaken :
    ((beginStep (limited 7)).Quiet ∧ nonSegmented (beginStep (limited 7)).pc = false ∧
      limitFault ((beginStep (limited 7)).segmentLimit 8 7) (beginStep (limited 7)).pc = true ∧
      (beginStep (limited 7)).vectorInArea 244) ∧
    ((beginStep (paged [])).Quiet ∧ inLastPage ((paged []).fetchVa 8 0x1000) = false ∧
      (beginStep (paged [])).translate ((beginStep (paged [])).fetchVa 8 0x1000) = .miss ∧
      limitFault ((beginStep (paged [])).segmentLimit 8 7) (beginStep (paged [])).pc = false ∧
      (beginStep (paged [])).vectorInArea 249) ∧
    ((beginStep (watched 0x1000 1)).Quiet ∧
      debugHits (debugFetchMatch (beginStep (watched 0x1000 1)).dbg 0x1000) ≠ 0 ∧
      fetchUnitBytes (beginStep (watched 0x1000 1)) = .ok { prefixBytes := none, body := [0] } ∧
      (beginStep (watched 0x1000 1)).vectorInArea 243) ∧
    ((beginStep (broken 0x1000)).Quiet ∧ debugHits (debugFetchMatch (beginStep (broken 0x1000)).dbg 0x1000) = 0 ∧
      (beginStep (broken 0x1000)).translate 0x1000 = .hit { pa := 0x1000, entry := none } ∧
      (beginStep (broken 0x1000)).fetchBusError 0x1000 = true ∧ (beginStep (broken 0x1000)).vectorInArea 252) :=
  ⟨⟨quiet_of (by decide +kernel), by decide +kernel, by decide +kernel, inArea_of (by decide +kernel)⟩,
    ⟨quiet_of (by decide +kernel), by decide +kernel, by decide +kernel, by decide +kernel,
      inArea_of (by decide +kernel)⟩,
    ⟨quiet_of (by decide +kernel), by decide +kernel, fetches_of (by decide +kernel), inArea_of (by decide +kernel)⟩,
    ⟨quiet_of (by decide +kernel), by decide +kernel, by decide +kernel, by decide +kernel,
      inArea_of (by decide +kernel)⟩⟩

/-- `user` with an NMI edge to come. -/
def nmiComes : State := { user with inputs := [{ user.pins with nmi := true }] }

/-- `user` with an interrupt request of vector 33 and interrupts open. -/
def irqComes : State := { user with sr := 0, inputs := [{ user.pins with irq := true, vec := 33 }] }

/-- `user` in an interrupt handler, one NMI edge waiting and another to come. -/
def twoEdges : State := { nmiComes with hwi := true, nmiEdges := 1 }

/-- For InterruptsTaken: an NMI, a request, neither, a handler. -/
theorem witness_interruptsTaken :
    ((beginStep nmiComes).pins.rst = false ∧ (beginStep nmiComes).clk.stopped = false ∧
      (beginStep nmiComes).nmiEdges ≠ 0 ∧ (beginStep nmiComes).hwi = false ∧
      (beginStep nmiComes).vectorInArea 254) ∧
    ((beginStep irqComes).pins.rst = false ∧ (beginStep irqComes).clk.stopped = false ∧
      (beginStep irqComes).nmiEdges = 0 ∧ (beginStep irqComes).pins.irq = true ∧
      (beginStep irqComes).interruptMask = false ∧ (beginStep irqComes).hwi = false ∧
      (beginStep irqComes).vectorInArea (beginStep irqComes).pins.vec) ∧
    ((beginStep user).nmiEdges = 0 ∧ (beginStep user).pins.irq = false) ∧
    ((beginStep twoEdges).hwi = true ∧ (beginStep twoEdges).pins.rst = false ∧
      (beginStep twoEdges).clk.stopped = false) :=
  ⟨⟨by decide +kernel, by decide +kernel, by decide +kernel, by decide +kernel, inArea_of (by decide +kernel)⟩,
    ⟨by decide +kernel, by decide +kernel, by decide +kernel, by decide +kernel, by decide +kernel,
      by decide +kernel, inArea_of (by decide +kernel)⟩, by decide +kernel⟩

/-- For ResetInputAndStoppedClock: the reset input, a stopped clock, an NMI edge. -/
theorem witness_resetInputAndStoppedClock :
    (beginStep { user with pins := { user.pins with rst := true } }).pins.rst = true ∧
    ((beginStep { user with clk := { rate := 0, stopped := true } }).pins.rst = false ∧
      (beginStep { user with clk := { rate := 0, stopped := true } }).clk.stopped = true) ∧
    (nmiComes.pins.nmi = false ∧ (beginStep nmiComes).pins.nmi = true) := by decide +kernel

/-- 60_exceptions.md R573: each rising edge is remembered, and an entry uses up one. -/
theorem test_nmi_edges_are_counted :
    (beginStep twoEdges).nmiEdges = 2 ∧
    ends (step { user with nmiEdges := 2 }) (fun t => t.nmiEdges == 1 && t.hwi && t.exc == 254) = true := by
  decide +kernel

/-- 10_state.md R66, 60_exceptions.md R573 (the model's choice, log 23): remembered edges outlive the reset input. -/
theorem test_reset_keeps_nmi_edge :
    ends (step { user with nmiEdges := 2, pins := { user.pins with rst := true } })
      (fun t => t.nmiEdges == 2 && t.hwi) = true := by decide +kernel

/-- `user` single-stepping an ADD. -/
def stepping : State := withBytes (watched 0 0x80) 0x1000 addBytes

/-- The same ADD under a false predicate. -/
def skipping : State := withBytes (watched 0 0x80) 0x1000 [0x27, 0x40, 0x81, 0x30, 0x00]

/-- For DebugTraps, the clause of the skipped unit. -/
theorem witness_debugTraps_skipped :
    (beginStep skipping).Quiet ∧ (beginStep skipping).Unwatched ∧
    fetchUnitBytes (beginStep skipping) = .ok { prefixBytes := none, body := [0x27, 0x40, 0x81, 0x30, 0x00] } ∧
    decode [0x27, 0x40, 0x81, 0x30, 0x00] = .ok (.add (.test 2 .lt) 3 1 2) ∧
    (∃ t, runDecoded exec (beginStep skipping) none (.add (.test 2 .lt) 3 1 2) = .next t) ∧
    predicateOf (.add (.test 2 .lt) 3 1 2) = some (.test 2 .lt) ∧ (beginStep skipping).holds (.test 2 .lt) = false :=
  ⟨quiet_of (by decide +kernel), unwatched_of (by decide +kernel), fetches_of (by decide +kernel), by decide +kernel,
    some_next (by decide +kernel), by decide +kernel, by decide +kernel⟩

/-- For DebugTraps. -/
theorem witness_debugTraps :
    ((beginStep stepping).Quiet ∧ (beginStep stepping).Unwatched ∧
      fetchUnitBytes (beginStep stepping) = .ok { prefixBytes := none, body := addBytes } ∧
      decode addBytes = .ok (.add .always 3 1 2) ∧ (beginStep stepping).kernel = false ∧
      predicateOf (.add .always 3 1 2) = some .always ∧ (beginStep stepping).holds .always = true) ∧
    ∃ t, runDecoded exec (beginStep stepping) none (.add .always 3 1 2) = .next t ∧ t.dbg.ctrl.getLsbD 7 = true ∧
      t.progress = .retired ∧ (endStep t).vectorInArea 243 := by
  refine ⟨⟨quiet_of (by decide +kernel), unwatched_of (by decide +kernel), fetches_of (by decide +kernel),
    by decide +kernel, by decide +kernel, by decide +kernel, by decide +kernel⟩, ?_⟩
  have h : ends (exec (.add .always 3 1 2) (beginStep stepping)) (fun t => t.dbg.ctrl.getLsbD 7 && t.progress ==
        .retired &&
      ((endStep t).vectorBase + 16 * zext (243 : BitVec 8)).extractLsb' 60 4 == 15) = true := by decide +kernel
  obtain ⟨t, ht⟩ := some_next (show ends (exec (.add .always 3 1 2) (beginStep stepping)) (fun _ => true) = true by
    decide +kernel)
  rw [ht] at h
  simp only [ends, Bool.and_eq_true] at h
  exact ⟨t, ht, h.1.1, eq_of_beq h.1.2, inArea_of h.2⟩

/-- For StepKeepsInvariant, in a state other than the reset state. -/
theorem witness_stepKeepsInvariant :
    (withBytes user 0x1000 addBytes).Inv ∧ ∃ t, step (withBytes user 0x1000 addBytes) = .next t :=
  ⟨⟨by decide +kernel, by decide +kernel, by decide +kernel, by decide +kernel, by decide +kernel, by decide +kernel,
    by decide +kernel⟩, some_next (by decide +kernel)⟩

/-- For ModeAndStatusWriters: an ADD; an RTE that leaves kernel mode, in exec and in a step; a CLI that changes SR. -/
theorem witness_modeAndStatusWriters :
    (ends (exec (.add .always 3 1 2) user) (fun t => t.progress != .raised) = true ∧
      changesMode (.add .always 3 1 2) = false) ∧
    (system.kernel = true ∧ ends (exec (.rte .always) system) (fun t => !t.kernel) = true) ∧
    ends (exec (.cli .always) system) (fun t => t.sr != system.sr) = true ∧
    ends (step (withBytes system 0x1000 [0x01, 0xF3])) (fun t => !t.kernel) = true := by decide +kernel

/-- For MemoryWriters and PredicateWriters. -/
theorem witness_memoryAndPredicateWriters :
    ends (exec (.add .always 3 1 2) user) (fun _ => true) = true ∧ storesToMemory (.add .always 3 1 2) = false ∧
    writesPredicates (.add .always 3 1 2) = false := by decide +kernel

/-- For FalsePredicateSkips: an instruction with a meaning, and a name that is skipped. -/
theorem witness_falsePredicateSkips :
    (predicateOf (.add (.test 2 .eq) 3 1 2) = some (.test 2 .eq) ∧ user.holds (.test 2 .eq) = false ∧
      mapOnly (.add (.test 2 .eq) 3 1 2) = false) ∧
    (predicateOf (.sgn .never 1 2) = some .never ∧ user.holds .never = false ∧ mapOnly (.sgn .never 1 2) = true) := by
  decide +kernel

/-- For KernelOnlyRegistersRefused: r28 and r31, as target and as source; kernel mode. -/
theorem witness_kernelOnlyRegistersRefused :
    (user.holds .always = true ∧ user.kernel = false ∧ (28 : Reg) ∈ registersNamed (.add .always 28 1 2) ∧
      (31 : Reg) ∈ registersNamed (.sw .always 1 5 31 0)) ∧ system.kernel = true := by decide +kernel

/-- For StoreThenLoad: the lowest address, and eight bytes at the highest. -/
theorem witness_storeThenLoad :
    user.mem.wf = true ∧ (∀ k, k < 8 → user.isDevice ((0 : Word).toNat + k) = false) ∧
    (∀ k, k < 8 → user.isDevice ((0xFFFFFFFFFFFFFFF8 : Word).toNat + k) = false) := by decide +kernel

/-- `user` in a string of one element whose second address is misaligned. -/
def oddMove : State := { user.setReg 3 1 with lc := 1 }

/-- For DataAccessChecksInOrder: each clause. -/
theorem witness_dataAccessChecksInOrder :
    (addSegment (user.segmentBase 0 1) 1).toNat % 2 ≠ 0 ∧
    (limitFault ((limited 1).segmentLimit 0 1) 0 = true ∧ (limited 1).vectorInArea 244) ∧
    (limitFault (user.segmentLimit 0 1) 0xFFFFFFFFFFFFE000 = false ∧
      inLastPage (addSegment ((user.setSegment 1 0x1000).syncSegments.segmentBase 0 1) 0xFFFFFFFFFFFFE000) = true) ∧
    ((paged []).translate 0x2000 = .miss ∧ (paged []).vectorInArea 248) ∧
    (debugHits (debugDataMatch (watched 0x2000 0x30001).dbg .load 0x2000) ≠ 0 ∧
      (watched 0x2000 0x30001).vectorInArea 243) ∧
    ((broken 0x2000).dataBusError .load 0x2000 = true ∧ (broken 0x2000).vectorInArea 251) ∧
    user.Reaches .load 0 1 0x2000 8 { pa := 0x2000, entry := none } ∧
    (predicateOf (.lw .always 1 5 2 1) = some .always ∧
      user.Executes .always (registersNamed (.lw .always 1 5 2 1)) ∧
      firstAccess user (.lw .always 1 5 2 1) = some (.load, 1, user.reg 2 + user.imm (1 : BitVec 9), 8) ∧
      ∀ p, ¬user.Reaches .load 0 1 (user.reg 2 + user.imm (1 : BitVec 9)) 8 p) ∧
    (oddMove.lc ≠ 0 ∧ oddMove.Executes .always [2, 3, 4] ∧
      oddMove.Reaches .load 0 1 (oddMove.reg 2 + oddMove.reg 4) (sizeBytes .word) { pa := 0, entry := none } ∧
      (∀ p, ¬oddMove.Reaches .store 1 1 (oddMove.reg 3 + oddMove.reg 4) (sizeBytes .word) p) ∧
      ∀ p, ¬oddMove.Reaches .load 1 1 (oddMove.reg 3 + oddMove.reg 4) (sizeBytes .word) p) :=
  ⟨by decide +kernel, ⟨by decide +kernel, inArea_of (by decide +kernel)⟩, by decide +kernel,
    ⟨by decide +kernel, inArea_of (by decide +kernel)⟩, ⟨by decide +kernel, inArea_of (by decide +kernel)⟩,
    ⟨by decide +kernel, inArea_of (by decide +kernel)⟩, reaches_of (by decide +kernel),
    ⟨by decide +kernel, executes_of (by decide +kernel), by decide +kernel,
      fun _ h => absurd h.aligned (by decide +kernel)⟩,
    ⟨by decide +kernel, executes_of (by decide +kernel), reaches_of (by decide +kernel),
      fun _ h => absurd h.aligned (by decide +kernel), fun _ h => absurd h.aligned (by decide +kernel)⟩⟩

/-- For DataAccessChecksInOrder: the accesses at the ends of what the fields allow. -/
theorem witness_firstAccess :
    firstAccess user (.inc .always 1 0 3 2 0 1) = some (.update, 1, user.reg 2 + user.imm (0 : BitVec 9), 8) ∧
    firstAccess user (.inc .always 1 0 4 2 0 1) = none ∧ firstAccess user (.lb .always 1 0 2 0) = none ∧
    firstAccess { user with bir := 5 } (.sws .always 1 61 2 0) =
      some (.store, 1, user.reg 2 + user.imm (0 : BitVec 9), 8) ∧
    firstAccess { user with bir := 6 } (.sws .always 1 61 2 0) = none ∧
    firstAccess user (.stset .always 1 .byte .up 2 3) = none := by decide +kernel

/-- For TlbLookup: off, page size 5, no entry, one entry in way 7, two entries in ways 0 and 7. -/
theorem witness_tlbLookup :
    user.tlb.enabled = false ∧
    ((paged []).tlb.enabled = true ∧ ({ (paged []).tlb with pageSize := 5 } : Tlb).pageSize.toNat = 5) ∧
    (paged []).translate 0x2000 = .miss ∧
    (paged [(58, entryOf 2 9)]).translate 0x2010 = .hit { pa := 0x9010, entry := some 58 } ∧
    (paged [(2, entryOf 2 9), (58, entryOf 2 9)]).translate 0x2010 = .multiple := by decide +kernel

/-- For TlbMissesTaken: data and fetch. -/
theorem witness_tlbMissesTaken :
    ((paged []).tlb.enabled = true ∧ (paged []).tlb.pageSize.toNat < 5 ∧
      limitFault ((paged []).segmentLimit 0 1) 0x2000 = false ∧ inLastPage 0x2000 = false ∧
      (paged []).vectorInArea 248) ∧
    (∀ i va, entryMatches ((paged []).tlbEntry i) (paged []).tlb.pageSize (paged []).asid va = false) ∧
    (limitFault ((paged []).segmentLimit 8 7) (seq (paged []).pc 0) = false ∧ (paged []).vectorInArea 249) := by
  refine ⟨⟨by decide +kernel, by decide +kernel, by decide +kernel, by decide +kernel, inArea_of (by decide +kernel)⟩,
    fun i va => ?_, by decide +kernel, inArea_of (by decide +kernel)⟩
  have h : ∀ i, ((paged []).tlbEntry i).v = false := by decide +kernel
  simp [entryMatches, h i]

/-- `user` with C12 outside the non-segmented area. -/
def strayed : State := (user.setCodeReg 12 0).syncAll

/-- For ExceptionEntry and CallsIntoTheVectorTable: vectors inside and outside the area, at both ends of the table. -/
theorem witness_exceptionEntry :
    user.vectorInArea 0 ∧ user.vectorInArea 255 ∧ ¬strayed.vectorInArea 0 ∧ ¬strayed.vectorInArea 255 ∧
    user.holds .always = true ∧ strayed.holds .always = true :=
  ⟨inArea_of (by decide +kernel), inArea_of (by decide +kernel), notInArea_of (by decide +kernel),
    notInArea_of (by decide +kernel), by decide +kernel, by decide +kernel⟩

/-- For InterruptMaskAndPrivilege, ReturnsFromExceptions, TlbSwitchCommands and TlbRegisterCommands. -/
theorem witness_kernelInstructions :
    (system.holds .always = true ∧ system.kernel = true) ∧
    (user.holds .always = true ∧ user.kernel = false ∧ user.vectorInArea 245) :=
  ⟨by decide +kernel, by decide +kernel, by decide +kernel, inArea_of (by decide +kernel)⟩

/-- For DivideByZeroTraps, CheckedArithmetic, DivisionResults: a zero and a nonzero divisor; the registers next to
the kernel-only ones. -/
theorem witness_arithmetic :
    (user.Executes .always [27, 32, 63] ∧ user.reg 63 = 0 ∧ user.vectorInArea 241) ∧
    ((user.setReg 63 2).Executes .always [27, 32, 63] ∧ (user.setReg 63 2).reg 63 ≠ 0) ∧
    (user.Executes .always [0, 63] ∧ user.imm (0 : BitVec 12) = 0 ∧ user.imm (0xFFF : BitVec 12) ≠ 0) :=
  ⟨⟨executes_of (by decide +kernel), by decide +kernel, inArea_of (by decide +kernel)⟩,
    ⟨executes_of (by decide +kernel), by decide +kernel⟩,
    ⟨executes_of (by decide +kernel), by decide +kernel, by decide +kernel⟩⟩

/-- For UnsignedArithmetic, ImmediateArithmetic, LogicResults, LogicImmediatesAndMlo, ShiftsAndRotates,
CountsAndExtensions, BcdAndCpuid (digits 9 and 9) and BitFields (the fields 0..0, 0..63, 63..63);
MLO's codes 7 and 8. -/
theorem witness_registerInstructions :
    user.Executes .always [63] ∧ user.Executes .always [63, 0] ∧ user.Executes .always [63, 0, 27] ∧
    user.Executes .always [63, 0, 27, 32] ∧
    ((user.setReg 1 0x99).reg 1).toNat % 16 ≤ 9 ∧ ((user.setReg 1 0x99).reg 1).toNat / 16 % 16 ≤ 9 ∧
    ((user.setReg 1 7).reg 1).toNat ≤ 7 ∧ 7 < ((user.setReg 1 8).reg 1).toNat ∧
    (0 : BitVec 6).toNat ≤ (0 : BitVec 6).toNat ∧ (0 : BitVec 6).toNat ≤ (63 : BitVec 6).toNat ∧
    (63 : BitVec 6).toNat ≤ (63 : BitVec 6).toNat :=
  ⟨executes_of (by decide +kernel), executes_of (by decide +kernel), executes_of (by decide +kernel),
    executes_of (by decide +kernel), by decide +kernel, by decide +kernel, by decide +kernel, by decide +kernel,
    by decide +kernel, by decide +kernel, by decide +kernel⟩

/-- For CompareFlags, PredicateLogic, BranchesAndLoop (LC 0 and 1) and JumpsAndReturns (adjustments 0 and 248). -/
theorem witness_control :
    user.Executes .always [0, 63] ∧ user.Executes .always [63] ∧ user.holds .always = true ∧ user.lc = 0 ∧
    ({ user with lc := 1 } : State).lc ≠ 0 ∧ (0 : BitVec 8).toNat % 8 = 0 ∧ (248 : BitVec 8).toNat % 8 = 0 :=
  ⟨executes_of (by decide +kernel), executes_of (by decide +kernel), by decide +kernel, by decide +kernel,
    by decide +kernel, by decide +kernel, by decide +kernel⟩

/-- An access of 8 bytes through way 7 of the TLB. -/
def mapped : State := paged [(57, entryOf 1 8), (58, entryOf 2 9)]

/-- For IndirectJumps, LoadResults and the loading forms of SpecialRegisterMoves: 1, 2, 4 and 8 bytes, untranslated
and through an entry. -/
theorem witness_loads :
    user.Executes .always [0, 0, 0] ∧ user.Executes .always [5, 2] ∧ user.Executes .always [5, 2, 3] ∧
    user.Executes .always [2] ∧
    user.Reaches .load 0 1 (user.reg 2 + user.imm (0xFF : BitVec 9)) 1 { pa := 0xFF, entry := none } ∧
    user.Reaches .load 0 1 (user.reg 2 * 2 + user.imm (0xFE : BitVec 9)) 2 { pa := 0xFE, entry := none } ∧
    user.Reaches .load 0 1 (user.reg 2 + user.reg 3 * BitVec.ofNat 64 (2 ^ (3 : BitVec 2).toNat)) 4
      { pa := 0, entry := none } ∧
    (mapped.setReg 2 0x2000).Reaches .load 0 1
      ((mapped.setReg 2 0x2000).reg 2 + (mapped.setReg 2 0x2000).imm (8 : BitVec 9)) 8
      { pa := 0x9008, entry := some 58 } :=
  ⟨executes_of (by decide +kernel), executes_of (by decide +kernel), executes_of (by decide +kernel),
    executes_of (by decide +kernel), reaches_of (by decide +kernel), reaches_of (by decide +kernel),
    reaches_of (by decide +kernel), reaches_of (by decide +kernel)⟩

/-- For PrefetchesDoNothing. -/
theorem witness_prefetches :
    user.Executes .always [0, 63] ∧ user.Executes .always [0, 63, 62] ∧ user.Executes .always [63] :=
  ⟨executes_of (by decide +kernel), executes_of (by decide +kernel), executes_of (by decide +kernel)⟩

/-- For StoreResults, Reservation and CompareSwapAndIncrement: stores and updates of 1 and 8 bytes, with and without a
reservation, memory equal to the compared word and not; sizes 0 and 3 of INC. -/
theorem witness_stores :
    user.Executes .always [5, 2] ∧ user.Executes .always [5, 2, 3] ∧ user.Executes .always [5, 2, 3, 4] ∧
    user.mem.wf = true ∧
    user.Reaches .store 0 1 (user.reg 2 + user.imm (0xFF : BitVec 9)) 1 { pa := 0xFF, entry := none } ∧
    user.Reaches .store 0 1 (user.reg 2 + user.imm (0xF8 : BitVec 9)) 8 { pa := 0xF8, entry := none } ∧
    user.Reaches .update 0 1 (user.reg 2 + user.imm (0x78 : BitVec 8)) 8 { pa := 0x78, entry := none } ∧
    user.loadValue 0 { pa := 0x78, entry := none } 8 = user.reg 3 ∧
    (user.setReg 3 1).loadValue 0 { pa := 0x78, entry := none } 8 ≠ (user.setReg 3 1).reg 3 ∧
    user.Reaches .update 0 1 (user.reg 2 + user.imm (0xFF : BitVec 9)) (2 ^ (0 : BitVec 3).toNat)
      { pa := 0xFF, entry := none } ∧
    user.Reaches .update 0 1 (user.reg 2 + user.imm (0xF8 : BitVec 9)) (2 ^ (3 : BitVec 3).toNat)
      { pa := 0xF8, entry := none } ∧
    ({ user with reservation := some 0xF8 } : State).reserved 0xF8 = true ∧ user.reserved 0xF8 = false :=
  ⟨executes_of (by decide +kernel), executes_of (by decide +kernel), executes_of (by decide +kernel),
    by decide +kernel, reaches_of (by decide +kernel), reaches_of (by decide +kernel), reaches_of (by decide +kernel),
    by decide +kernel, by decide +kernel, reaches_of (by decide +kernel), reaches_of (by decide +kernel),
    by decide +kernel, by decide +kernel⟩

/-- For SpecialRegisterReads, Writes and Moves: the numbers at the ends of their ranges, BIR 0, 3, 4 and 5. -/
theorem witness_specialRegisters :
    user.Executes .always [63] ∧ user.holds .always = true ∧
    (∀ n ∈ [(0 : SprNum), 15, 16, 31, 32, 39, 40, 47, 48, 49, 50, 51, 52, 53, 59, 60],
      sprListed n = true ∧ n ≠ 61) ∧
    (sprListed 61 = true ∧ user.bir = 0 ∧ (∀ b ∈ [(0 : BitVec 6), 3, 4, 5], b.toNat ≤ 5)) ∧
    user.Reaches .store 0 1 (user.reg 2 + user.imm (0xF8 : BitVec 9)) 8 { pa := 0xF8, entry := none } :=
  ⟨executes_of (by decide +kernel), by decide +kernel, by decide +kernel, by decide +kernel,
    reaches_of (by decide +kernel)⟩

/-- For StringElements: LC 0, 1 and 2; a byte and a word; two reads that agree, two that differ; a match and none. -/
theorem witness_stringElements :
    user.Executes .always [2, 3] ∧ user.Executes .always [2, 3, 4] ∧ user.lc = 0 ∧
    ({ user with lc := 1 } : State).lc ≠ 0 ∧ ({ user with lc := 2 } : State).lc ≠ 0 ∧
    user.mem.wf = true ∧
    user.Reaches .store 0 1 (user.reg 2) (sizeBytes .byte) { pa := 0, entry := none } ∧
    user.Reaches .load 0 1 (user.reg 2 + user.reg 4) (sizeBytes .word) { pa := 0, entry := none } ∧
    user.Reaches .store 1 1 (user.reg 3 + user.reg 4) (sizeBytes .word) { pa := 0, entry := none } ∧
    user.Reaches .load 1 1 (user.reg 3 + user.reg 4) (sizeBytes .word) { pa := 0, entry := none } ∧
    user.loadValue 0 { pa := 0, entry := none } 8 = user.loadValue 1 { pa := 0, entry := none } 8 ∧
    (withBytes user 8 [1]).loadValue 0 { pa := 0, entry := none } 8 ≠
      (withBytes user 8 [1]).loadValue 1 { pa := 8, entry := none } 8 ∧
    (user.loadValue 0 { pa := 0, entry := none } 8).toNat = (user.reg 3).toNat % 2 ^ (8 * sizeBytes .word) ∧
    ((user.setReg 3 1).loadValue 0 { pa := 0, entry := none } 8).toNat ≠
      ((user.setReg 3 1).reg 3).toNat % 2 ^ (8 * sizeBytes .word) :=
  ⟨executes_of (by decide +kernel), executes_of (by decide +kernel), by decide +kernel, by decide +kernel,
    by decide +kernel, by decide +kernel, reaches_of (by decide +kernel), reaches_of (by decide +kernel),
    reaches_of (by decide +kernel), reaches_of (by decide +kernel), by decide +kernel, by decide +kernel,
    by decide +kernel, by decide +kernel⟩

/-- For BarriersAndNop, ClockAndCacheCommands and ImmediatePrefixes: no prefix is pending; an address that translates
and has a stale byte. -/
theorem witness_barriersAndCache :
    user.immPrefix = none ∧ user.holds .always = true ∧ user.Executes .always [63] ∧
    user.translate (user.fetchVa 0 (user.reg 63)) = .hit { pa := 0, entry := none } ∧
    ({ user with stale := [{ addr := 0, old := 1, invalidated := false }] } : State).stale ≠ [] :=
  ⟨by decide +kernel, by decide +kernel, executes_of (by decide +kernel), by decide +kernel, by decide +kernel⟩

/-- For MapOnlyNamesStop and ReservedFieldsRefused: each refused field value. -/
theorem witness_refusedFields :
    (mapOnly (.push .always) = true ∧ registersNamed (.push .always) = []) ∧ user.Executes .always [1, 2] ∧
    user.Executes .always [63] ∧
    (system.Executes .always (registersNamed (.sys .always 12 14 4)) ∧ system.kernel = true ∧
      wellFormed (.sys .always 12 14 4) = false) ∧
    ((13 : CodeReg) ≠ 12 ∧ (14 : CodeReg) ≠ 13 ∧ (4 : BitVec 8).toNat % 8 ≠ 0) ∧
    (0 : BitVec 6).toNat < (1 : BitVec 6).toNat ∧
    (∀ n ∈ [(54 : SprNum), 58, 62, 63], sprListed n = false) ∧ 5 < (6 : BitVec 6).toNat ∧
    ((1 : BitVec 3) ≠ 0 ∧ 3 < (4 : BitVec 3).toNat) ∧ (12 ≤ (12 : BitVec 4).toNat ∧ 12 ≤ (15 : BitVec 4).toNat) :=
  ⟨by decide +kernel, executes_of (by decide +kernel), executes_of (by decide +kernel),
    ⟨executes_of (by decide +kernel), by decide +kernel, by decide +kernel⟩, by decide +kernel, by decide +kernel,
    by decide +kernel, by decide +kernel, by decide +kernel, by decide +kernel⟩

end Sys2Proof.Tests
end

section
/-! PROOFS for 10_state.md: what a false predicate leaves of an instruction (R33, R34). -/

namespace Sys2Proof.Machine

/-! ### The condition table -/

@[simp] theorem State.holds_never (s : State) : s.holds .never = false := rfl

@[simp] theorem State.holds_always (s : State) : s.holds .always = true := rfl

@[simp] theorem State.holds_test (s : State) (p : PredReg) (c : Cond) :
    s.holds (.test p c) = condHolds c (s.pred p) s.pins.psig := rfl

/-! ### Which instructions look at their predicate -/

@[simp] theorem length_bytesOfValue (n v : Nat) : (bytesOfValue n v).length = n := by
  induction n generalizing v with
  | zero => rfl
  | succ n ih => rw [bytesOfValue, List.length_cons, ih]

@[simp] theorem length_encode (i : Instr) : (encode i).length = encodeLength i :=
  length_bytesOfValue _ _

/-- The map-only names whose format is known, and with it the length that a skip needs (47_map_only.md R540). -/
def FormatGiven (q : Pred) (i : Instr) : Prop :=
  ∃ rt ra, i = .sgn q rt ra ∨ i = .redor q rt ra ∨ i = .redand q rt ra ∨ i = .par q rt ra

/-- `guarded` with its branches written out, the form to which `exec` reduces for one instruction. -/
theorem exists_guarded_of_eq_ite {q : Pred} {len : Nat} {rs : List Reg} {s : State} {r o : Result}
    (h : o = if s.holds q then (if s.allows rs then r else .refused .kernelOnlyRegister)
      else .next (s.setPc (s.npc len))) : ∃ k, o = guarded q len rs s k :=
  ⟨fun _ => r, h⟩

/-- Every predicated instruction runs under `guarded`, at its encoded length and with the registers it names, but for
the barriers, the two-byte NOP and the map-only names of unknown length. -/
theorem exec_predicated_cases {i : Instr} {q : Pred} (hq : predicateOf i = some q) (s : State) :
    (∃ k, exec i s = guarded q (encodeLength i) (registersNamed i) s k) ∨
    (i = .sync q ∨ i = .memsb q) ∨ (i = .nop2 q ∨ i = .memdb q) ∨ (mapOnly i = true ∧ ¬FormatGiven q i) := by
  cases i with
  | brk | nop1 | rts1 | imm16 | imm24 | imm32 | imm40 | imm48 | imm56 | imm64 => cases hq
  | sync => cases hq; exact .inr (.inl (.inl rfl))
  | memsb => cases hq; exact .inr (.inl (.inr rfl))
  | nop2 => cases hq; exact .inr (.inr (.inl (.inl rfl)))
  | memdb => cases hq; exact .inr (.inr (.inl (.inr rfl)))
  | fmac | fmov | ftoi | itof | fneg | fabs | fsign | fman | fnabs | fstat | frm | fcmp | fadd | fsub | fmul | fdiv
  | fcmps | fadds | fsubs | fmuls | fdivs | fmovs | ftois | itofs | fnegs | fabss | fsigns | fmans | fnabss | ftx
  | fcx | fex | fdx | ftst | fstst | fscmp | lfs | lfd | sfs | sfd | push | pea | pop | link | unlink | immFF =>
    exact .inr (.inr (.inr ⟨rfl, by simp [FormatGiven]⟩))
  | _ => cases hq; exact .inl (exists_guarded_of_eq_ite rfl)

/-- The two-byte NOP and MEMDB only go on, whatever their predicate (46_system.md R499, R506). -/
theorem exec_nop2_or_memdb {i : Instr} {q : Pred} (h : i = .nop2 q ∨ i = .memdb q) (s : State) :
    exec i s = .next (s.setPc (s.npc (encodeLength i))) := by
  obtain rfl | rfl := h <;> rfl

/-- A false predicate (10_state.md R34), with the exceptions of 46_system.md R496, R497 and 47_map_only.md R540. -/
theorem exec_skips {i : Instr} {q : Pred} {s : State} (hq : predicateOf i = some q) (hs : s.holds q = false)
    (hsync : i ≠ .sync q) (hmemsb : i ≠ .memsb q) (hmap : mapOnly i = true → FormatGiven q i) :
    exec i s = .next (s.setPc (s.npc (encodeLength i))) := by
  obtain ⟨k, hk⟩ | (h | h) | h | ⟨hm, hf⟩ := exec_predicated_cases hq s
  · rw [hk, guarded_skips hs]
  · exact absurd h hsync
  · exact absurd h hmemsb
  · exact exec_nop2_or_memdb h s
  · exact absurd (hmap hm) hf

/-- Settles O18: the condition table is `condHolds` read row by row; the skip is `exec_skips`, at the length of the
encoding. -/
theorem falsePredicateSkips : Obligations.FalsePredicateSkips := by
  refine ⟨fun s p => ?_, fun i q s hq hs hsync hmemsb hmap => ?_⟩
  · simp [condHolds]
  · rw [length_encode]
    exact exec_skips hq hs hsync hmemsb hmap

end Sys2Proof.Machine
end

section
/-! PROOFS for 30_encoding.md: the table of lengths, the decoder, the encoder and the fetch agree (R131). -/

namespace Sys2Proof.Machine

/-! ### The first byte (R133) -/

theorem codeOfCond_of_condOfCode {n : Nat} {c : Cond} (h : condOfCode n = some c) : codeOfCond c = n := by
  unfold condOfCode at h
  split at h <;> cases h <;> rfl

theorem codeOfCond_bounds (c : Cond) : 2 ≤ codeOfCond c ∧ codeOfCond c ≤ 13 := by
  cases c <;> decide

/-- Only the encoder's own byte reads as a predicate. -/
theorem toNat_of_firstByte_pred {b : Byte} {q : Pred} (h : firstByte b = .pred q) : b.toNat = predByte q := by
  have hb := b.isLt
  simp only [firstByte] at h
  split_ifs at h
  case pos | pos => cases h; simp only [predByte]; omega
  case neg =>
    split at h <;> cases h
    next c hc =>
      have hcode := codeOfCond_of_condOfCode hc
      simp only [predByte, BitVec.toNat_ofNat]
      omega

theorem toNat_of_firstByte_imm {b : Byte} {m : Nat} (h : firstByte b = .imm m) :
    b.toNat = 16 * (m + 1) ∧ 1 ≤ m ∧ m ≤ 7 := by
  grind [firstByte]

/-- The instructions of one byte, BRK, NOP and RTS. -/
theorem toNat_of_firstByte_single {b : Byte} (h : firstByte b = .brk ∨ firstByte b = .nop ∨ firstByte b = .rts) :
    b.toNat = 0x00 ∨ b.toNat = 0x10 ∨ b.toNat = 0x11 := by
  grind [firstByte]

/-! ### The fields of the first two bytes -/

@[simp] theorem field_valueOfBytes_first (b : Byte) (bs : List Byte) : field (valueOfBytes (b :: bs)) 0 8 = b := by
  apply BitVec.eq_of_toNat_eq
  have hb := b.isLt
  simp only [field, valueOfBytes, BitVec.toNat_ofNat]
  omega

@[simp] theorem field_valueOfBytes_second (b op : Byte) (bs : List Byte) :
    field (valueOfBytes (b :: op :: bs)) 8 8 = op := by
  apply BitVec.eq_of_toNat_eq
  have hb := b.isLt
  have hop := op.isLt
  simp only [field, valueOfBytes, BitVec.toNat_ofNat]
  omega

theorem decode_of_firstByte_pred {b : Byte} {q : Pred} (h : firstByte b = .pred q) (bs : List Byte) :
    decode (b :: bs) = decodePredicated q (valueOfBytes (b :: bs)) := by
  rw [decode, decodeValue, field_valueOfBytes_first, h]

theorem decodeReserved_ne_ok (v : Nat) (i : Instr) : decodeReserved v ≠ .ok i := by
  unfold decodeReserved
  split <;> nofun

theorem encodeLength_of_decodeImmediate {m v : Nat} {i : Instr} (h1 : 1 ≤ m) (h7 : m ≤ 7)
    (h : decodeImmediate m v = .ok i) : encodeLength i = m + 1 := by
  interval_cases m <;> cases h <;> rfl

/-! ### The table of lengths, row by row -/

/-- A first byte that is neither a one-byte instruction nor an IMM leaves the length to the opcode byte. -/
theorem tableLength_eq_of_not_special {b : Nat} (op : Nat) (hsingle : ¬(b = 0x00 ∨ b = 0x10 ∨ b = 0x11))
    (himm : ¬(b % 16 = 0 ∧ 0x20 ≤ b ∧ b ≤ 0x80)) : tableLength b op = tableLength 1 op := by
  unfold tableLength
  rw [if_neg hsingle, if_neg himm]
  rfl

theorem tableLength_predByte (q : Pred) (op : Nat) : tableLength (predByte q) op = tableLength 1 op := by
  cases q with
  | never | always => exact tableLength_eq_of_not_special op (by decide) (by decide)
  | test p c =>
    have hc := codeOfCond_bounds c
    exact tableLength_eq_of_not_special op (by simp only [predByte]; omega) (by simp only [predByte]; omega)

/-- Under a predicate the length is the opcode byte's. -/
theorem tableLength_of_firstByte_pred {b : Byte} {q : Pred} (h : firstByte b = .pred q) (op : Nat) :
    tableLength b.toNat op = tableLength 1 op := by
  rw [toNat_of_firstByte_pred h, tableLength_predByte]

theorem tableLength_of_firstByte_imm {b : Byte} {m : Nat} (h : firstByte b = .imm m) (op : Nat) :
    tableLength b.toNat op = some (m + 1) := by
  obtain ⟨hb, h1, h7⟩ := toNat_of_firstByte_imm h
  rw [hb]
  interval_cases m <;> rfl

theorem tableLength_of_firstByte_single {b : Byte}
    (h : firstByte b = .brk ∨ firstByte b = .nop ∨ firstByte b = .rts) (op : Nat) :
    tableLength b.toNat op = some 1 :=
  if_pos (toNat_of_firstByte_single h)

theorem tableLength_tst : ∀ op < 0x10, tableLength 1 op = some 3 := by decide

theorem tableLength_cmp : ∀ op < 0x30, 0x10 ≤ op → tableLength 1 op = some 4 := by decide

theorem tableLength_br : ∀ op < 0x40, 0x30 ≤ op → tableLength 1 op = some 3 := by decide

/-- The fetch reads the table: both are finite, one row for each opcode byte. -/
theorem lengthOfOpcode_of_tableLength : ∀ op < 256, ∀ n ∈ tableLength 1 op, lengthOfOpcode op = n := by
  decide +kernel

/-! ### The decoder's tables against the table of lengths -/

/-- The table of lengths or the opcode map assigns the opcode byte. -/
def assigned (op : Nat) : Bool := (tableLength 1 op).isSome || mapOnlyOpcodes.contains op

/-- An answer of the decoder that the tables allow for the opcode byte: a described instruction has the length of the
opcode's row, and an opcode that no table assigns answers `undefinedOpcode`. -/
def fitsTable (op : Nat) : Decoded → Bool
  | .ok i => assigned op && (mapOnly i || tableLength 1 op == some (encodeLength i))
  | .error e => assigned op || e == .undefinedOpcode

theorem tableLength_of_fitsTable {op : Nat} {i : Instr} (h : fitsTable op (.ok i) = true)
    (hi : mapOnly i = false) : tableLength 1 op = some (encodeLength i) := by
  simp only [fitsTable, hi, Bool.false_or, Bool.and_eq_true, beq_iff_eq] at h
  exact h.2

theorem eq_undefinedOpcode_of_fitsTable {op : Nat} {d : Decoded} (h : fitsTable op d = true)
    (hlen : tableLength 1 op = none) (hmap : op ∉ mapOnlyOpcodes) : d = .error .undefinedOpcode := by
  have hop : assigned op = false := by simp [assigned, hlen, hmap]
  cases d with
  | ok i => simp [fitsTable, hop] at h
  | error e => simpa [fitsTable, hop] using h

theorem fitsTable_decodeArith (q : Pred) (func : Nat) (rt ra rb : Reg) :
    fitsTable 0x40 (decodeArith q func rt ra rb) = true := by
  unfold decodeArith
  split <;> rfl

theorem fitsTable_decodeIdent (q : Pred) (func : Nat) (rt ra : Reg) :
    fitsTable 0x41 (decodeIdent q func rt ra) = true := by
  unfold decodeIdent
  split <;> rfl

theorem fitsTable_decodePredLogic (q : Pred) (func : Nat) (bt ba bb : PredBit) :
    fitsTable 0x42 (decodePredLogic q func bt ba bb) = true := by
  unfold decodePredLogic
  split <;> rfl

theorem fitsTable_decodeLogic (q : Pred) (func : Nat) (rt ra rb : Reg) :
    fitsTable 0x50 (decodeLogic q func rt ra rb) = true := by
  unfold decodeLogic
  split <;> rfl

theorem fitsTable_decodeShift (q : Pred) (func : Nat) (rt ra rb : BitVec 6) :
    fitsTable 0x58 (decodeShift q func rt ra rb) = true := by
  unfold decodeShift
  split <;> rfl

theorem fitsTable_decodeDouble (q : Pred) (func : Nat) : fitsTable 0x77 (decodeDouble q func) = true := by
  unfold decodeDouble
  split <;> rfl

theorem fitsTable_decodeFloatRR (q : Pred) (func : Nat) : fitsTable 0x78 (decodeFloatRR q func) = true := by
  unfold decodeFloatRR
  split <;> rfl

theorem fitsTable_decodeSingle (q : Pred) (func : Nat) : fitsTable 0x79 (decodeSingle q func) = true := by
  unfold decodeSingle
  split <;> rfl

theorem fitsTable_decodeJumpIndirect (q : Pred) (size : Nat) (sg : SegReg) (ct : CodeReg) (ra : Reg)
    (disp : BitVec 9) : fitsTable 0x8D (decodeJumpIndirect q size sg ct ra disp) = true := by
  unfold decodeJumpIndirect
  split <;> rfl

theorem fitsTable_decodeCache (q : Pred) (func : Nat) (ra : Reg) :
    fitsTable 0x9F (decodeCache q func ra) = true := by
  unfold decodeCache
  split <;> rfl

theorem fitsTable_decodeMove (q : Pred) (func : Nat) (rt ra : Reg) :
    fitsTable 0xA7 (decodeMove q func rt ra) = true := by
  unfold decodeMove
  split <;> rfl

theorem fitsTable_decodeBitField (q : Pred) (func : Nat) (rt ra mb me : BitVec 6) :
    fitsTable 0xAA (decodeBitField q func rt ra mb me) = true := by
  unfold decodeBitField
  split <;> rfl

theorem fitsTable_decodeJumpIndexed (q : Pred) (size : Nat) (sg : SegReg) (ct : CodeReg) (ra rb : Reg) :
    fitsTable 0xB7 (decodeJumpIndexed q size sg ct ra rb) = true := by
  unfold decodeJumpIndexed
  split <;> rfl

theorem fitsTable_decodeTlb (q : Pred) (cmd : Nat) (tn : BitVec 4) (r : Reg) :
    fitsTable 0xF0 (decodeTlb q cmd tn r) = true := by
  unfold decodeTlb
  split <;> rfl

theorem fitsTable_decodeBcd (q : Pred) (func : Nat) (rt ra rb : Reg) :
    fitsTable 0xF5 (decodeBcd q func rt ra rb) = true := by
  unfold decodeBcd
  split <;> rfl

theorem fitsTable_decodeTst {op : Nat} (hop : op < 0x10) (q : Pred) (o2 : Nat) (pt : PredReg) (ra : Reg) :
    fitsTable op (decodeTst q o2 pt ra) = true := by
  have hlen := tableLength_tst op hop
  unfold decodeTst
  split <;> simp only [fitsTable, assigned, hlen] <;> rfl

theorem fitsTable_decodeCmp {op : Nat} (hlo : 0x10 ≤ op) (hhi : op < 0x30) (q : Pred) (opc : Nat) (pt : PredReg)
    (ra rb : Reg) : fitsTable op (decodeCmp q opc pt ra rb) = true := by
  have hlen := tableLength_cmp op hhi hlo
  unfold decodeCmp
  split <;> simp only [fitsTable, assigned, hlen] <;> rfl

theorem fitsTable_ok {op : Nat} {i : Instr} (h : tableLength 1 op = some (encodeLength i)) :
    fitsTable op (.ok i) = true := by
  simp [fitsTable, assigned, h]

/-- One case for each row of the opcode map: a sub-table by its own lemma, a single instruction by evaluation. The tags
number the rows of `decodeOpcode`; the last is an opcode byte that the map leaves out. -/
theorem fitsTable_decodeOpcode (q : Pred) (op v : Nat) : fitsTable op (decodeOpcode q op v) = true := by
  unfold decodeOpcode
  split
  case h_1 => exact fitsTable_decodeArith ..
  case h_2 => exact fitsTable_decodeIdent ..
  case h_3 => exact fitsTable_decodePredLogic ..
  case h_14 => exact fitsTable_decodeLogic ..
  case h_19 => exact fitsTable_decodeShift ..
  case h_27 => exact fitsTable_decodeDouble ..
  case h_28 => exact fitsTable_decodeFloatRR ..
  case h_29 => exact fitsTable_decodeSingle ..
  case h_41 => exact fitsTable_decodeJumpIndirect ..
  case h_58 => exact fitsTable_decodeCache ..
  case h_66 => exact fitsTable_decodeMove ..
  case h_69 => exact fitsTable_decodeBitField ..
  case h_82 => exact fitsTable_decodeJumpIndexed ..
  case h_95 => exact fitsTable_decodeTlb ..
  case h_100 => exact fitsTable_decodeBcd ..
  case h_109 => exact Bool.or_true _
  all_goals rfl

theorem fitsTable_decodePredicated (q : Pred) (v : Nat) :
    fitsTable (field v 8 8).toNat (decodePredicated q v) = true := by
  simp only [decodePredicated]
  split_ifs with htst hcmp hcmpi hbr
  · exact fitsTable_decodeTst htst ..
  · exact fitsTable_decodeCmp (by omega) (by omega) ..
  · exact fitsTable_ok (tableLength_cmp _ hcmpi (by omega))
  · exact fitsTable_ok (tableLength_br _ hbr (by omega))
  · exact fitsTable_decodeOpcode ..

/-- Under a predicate the answer fits the row of the second byte. -/
theorem fitsTable_decode_of_pred {b : Byte} {q : Pred} (h : firstByte b = .pred q) (op : Byte) (rest : List Byte) :
    fitsTable op.toNat (decode (b :: op :: rest)) = true := by
  have hfits := fitsTable_decodePredicated q (valueOfBytes (b :: op :: rest))
  rwa [field_valueOfBytes_second, ← decode_of_firstByte_pred h] at hfits

/-- What decodes and is not map-only has the table's length (R131). -/
theorem tableLength_of_decode {b op : Byte} {rest : List Byte} {i : Instr} (h : decode (b :: op :: rest) = .ok i)
    (hi : mapOnly i = false) : tableLength b.toNat op.toNat = some (encodeLength i) := by
  have hd := h
  rw [decode, decodeValue, field_valueOfBytes_first] at hd
  cases hb : firstByte b with
  | brk | nop | rts =>
    rw [hb] at hd
    cases hd
    exact tableLength_of_firstByte_single (by simp [hb]) _
  | imm m =>
    obtain ⟨-, h1, h7⟩ := toNat_of_firstByte_imm hb
    rw [hb] at hd
    rw [tableLength_of_firstByte_imm hb, encodeLength_of_decodeImmediate h1 h7 hd]
  | pred q =>
    have hfits := fitsTable_decode_of_pred hb op rest
    rw [h] at hfits
    rw [tableLength_of_firstByte_pred hb, tableLength_of_fitsTable hfits hi]
  | reserved =>
    rw [hb] at hd
    exact absurd hd (decodeReserved_ne_ok _ _)

/-- Settles O2: the decoder's answers fit the table (`tableLength_of_decode`, `fitsTable_decode_of_pred`), and a
predicate's byte leaves the length to the opcode byte, where the fetch has the table's row. -/
theorem instructionLengths : Obligations.InstructionLengths := by
  refine ⟨fun b op rest i h hi => ?_, fun b op q n hb hn => ?_, fun b op m hb => ?_,
    fun b op rest q hb hn hmap => ?_⟩
  · rw [length_encode]
    exact tableLength_of_decode h hi
  · rw [tableLength_of_firstByte_pred hb] at hn
    exact lengthOfOpcode_of_tableLength _ op.isLt _ hn
  · exact tableLength_of_firstByte_imm hb _
  · rw [tableLength_of_firstByte_pred hb] at hn
    exact eq_undefinedOpcode_of_fitsTable (fitsTable_decode_of_pred hb op rest) hn hmap

end Sys2Proof.Machine
end

section
/-! PROOFS for 42_arithmetic.md: the instructions that answer modulo 2^64 and never raise (R254 to R281). -/

namespace Sys2Proof.Machine

/-! ### Results modulo 2^64 as word operations -/

/-- The scaled adds (42_arithmetic.md R268 to R271), for any factor. -/
theorem ofNat_toNat_mul_add {w : Nat} (a b : BitVec w) (n : Nat) :
    BitVec.ofNat w (a.toNat * n + b.toNat) = a * BitVec.ofNat w n + b := by
  simp only [BitVec.ofNat_add, BitVec.ofNat_mul, BitVec.ofNat_toNat, BitVec.setWidth_eq]

theorem ofInt_toNat_sub_toNat {w : Nat} (a b : BitVec w) :
    BitVec.ofInt w (a.toNat - b.toNat : Int) = a - b := by
  simp only [Int.sub_eq_add_neg, BitVec.ofInt_add, BitVec.ofInt_neg, BitVec.ofInt_natCast, BitVec.ofNat_toNat,
    BitVec.setWidth_eq, BitVec.sub_eq_add_neg]

theorem ofInt_neg_toInt {w : Nat} (a : BitVec w) : BitVec.ofInt w (-a.toInt) = 0 - a := by
  rw [BitVec.ofInt_neg, BitVec.ofInt_toInt, zero_sub]

/-- The most negative word is its own absolute value modulo 2^64 (R279). -/
theorem ofNat_natAbs_toInt {w : Nat} (a : BitVec w) :
    BitVec.ofNat w a.toInt.natAbs = if a.slt 0 then 0 - a else a := by
  rw [← BitVec.ofInt_natCast]
  split
  case isTrue h =>
    have hneg : a.toInt < 0 := by simpa [BitVec.slt_iff_toInt_lt] using h
    rw [Int.ofNat_natAbs_of_nonpos hneg.le, ofInt_neg_toInt]
  case isFalse h =>
    have hnonneg : 0 ≤ a.toInt := by simpa [BitVec.slt_iff_toInt_lt] using h
    rw [Int.natAbs_of_nonneg hnonneg, BitVec.ofInt_toInt]

/-! ### The instructions -/

/-- An instruction of this family is one `writeReg`; its word may be stated as any equal result. -/
theorem completesReg_of_eq_writeReg {r : Result} {q : Pred} {len : Nat} {named : List Reg} {rt : Reg} {v result : Word}
    {s : State} (h : s.Executes q named) (hv : result = v) (hr : r = writeReg q len named rt v s) :
    completesReg r s len rt result := by
  rw [hr, hv]
  exact writeReg_completes h

/-- Settles O30: each instruction is one `writeReg`, of a word operation that is the stated result modulo 2^64; the
encoder's formats are those of the rules. -/
theorem unsignedArithmetic : Obligations.UnsignedArithmetic := by
  refine ⟨fun s q rt ra rb h => ⟨?addu, ?subu, ?addu2, ?addu4, ?addu8, ?addu16⟩,
    fun s q rt ra h => ⟨?abs, ?neg, ?mov⟩, fun q rt ra rb => ?encodings⟩
  case addu => exact completesReg_of_eq_writeReg h (BitVec.add_def ..).symm rfl
  case subu => exact completesReg_of_eq_writeReg h (ofInt_toNat_sub_toNat ..) rfl
  case addu2 | addu4 | addu8 | addu16 => exact completesReg_of_eq_writeReg h (ofNat_toNat_mul_add ..) rfl
  case abs => exact completesReg_of_eq_writeReg h (ofNat_natAbs_toInt _) rfl
  case neg => exact completesReg_of_eq_writeReg h (ofInt_neg_toInt _) rfl
  case mov => exact completesReg_of_eq_writeReg h rfl rfl
  case encodings => exact ⟨rfl, rfl, rfl, rfl, rfl, rfl, rfl, rfl, rfl⟩

end Sys2Proof.Machine
end

section
/-! PROOFS for 43_logic_shift_bitfield.md: logic, counts and extensions, bit by bit (R301 to R315, R340 to R348). -/

namespace Sys2Proof.Machine

/-! ### Results given bit by bit -/

/-- The bitwise counterpart of `completesReg_of_eq_writeReg`: the word is known by its bits alone. -/
theorem completesBits_of_eq_writeReg {r : Result} {q : Pred} {len : Nat} {named : List Reg} {rt : Reg} {v : Word}
    {f : Nat → Bool} {s : State} (h : s.Executes q named) (hr : r = writeReg q len named rt v s)
    (hbits : ∀ j, j < 64 → v.getLsbD j = f j) : completesBits r s len rt f :=
  ⟨v, completesReg_of_eq_writeReg h rfl hr, hbits⟩

theorem getLsbD_not_of_lt {w j : Nat} (x : BitVec w) (hj : j < w) : (~~~x).getLsbD j = !x.getLsbD j := by
  rw [BitVec.getLsbD_not, decide_eq_true hj, Bool.true_and]

/-- MUX as the model computes it: the two masked words never have a bit in common (R313). -/
theorem getLsbD_mux {w j : Nat} (x y z : BitVec w) (hj : j < w) :
    ((x &&& y) ||| (~~~x &&& z)).getLsbD j = if x.getLsbD j then y.getLsbD j else z.getLsbD j := by
  rw [BitVec.getLsbD_or, BitVec.getLsbD_and, BitVec.getLsbD_and, getLsbD_not_of_lt x hj]
  cases x.getLsbD j <;> simp

/-! ### Logic -/

/-- Settles O33: each instruction is one `writeReg` of a bitwise word operation; NOT is a `writeReg` of a truth value. -/
theorem logicResults : Obligations.LogicResults := by
  refine ⟨fun s q rt ra rb h => ⟨?and, ?andc, ?or, ?orc, ?eor, ?nand, ?nor, ?enor⟩,
    fun s q rt ra rb rc h => ?mux, fun s q rt ra h => ⟨?not, ?com⟩, fun q rt ra rb rc => ?encodings⟩
  case and => exact completesBits_of_eq_writeReg h rfl fun j _ => BitVec.getLsbD_and
  case or => exact completesBits_of_eq_writeReg h rfl fun j _ => BitVec.getLsbD_or
  case eor => exact completesBits_of_eq_writeReg h rfl fun j _ => BitVec.getLsbD_xor
  case andc =>
    exact completesBits_of_eq_writeReg h rfl fun j hj => by rw [BitVec.getLsbD_and, getLsbD_not_of_lt _ hj]
  case orc =>
    exact completesBits_of_eq_writeReg h rfl fun j hj => by rw [BitVec.getLsbD_or, getLsbD_not_of_lt _ hj]
  case nand =>
    exact completesBits_of_eq_writeReg h rfl fun j hj => by rw [getLsbD_not_of_lt _ hj, BitVec.getLsbD_and]
  case nor =>
    exact completesBits_of_eq_writeReg h rfl fun j hj => by rw [getLsbD_not_of_lt _ hj, BitVec.getLsbD_or]
  case enor =>
    exact completesBits_of_eq_writeReg h rfl fun j hj => by rw [getLsbD_not_of_lt _ hj, BitVec.getLsbD_xor]
  case mux => exact completesBits_of_eq_writeReg h rfl fun j hj => getLsbD_mux _ _ _ hj
  case not => exact completesReg_of_eq_writeReg h (by simp only [wordOfBool, beq_iff_eq]) rfl
  case com => exact completesBits_of_eq_writeReg h rfl fun j hj => getLsbD_not_of_lt _ hj
  case encodings => exact ⟨rfl, rfl, rfl, rfl, rfl, rfl, rfl, rfl, rfl, rfl, rfl⟩

/-! ### Counts -/

theorem countLeading_le (b : Bool) (v : Word) (n : Nat) : countLeading b v n ≤ n := by
  induction n with
  | zero => exact Nat.le_refl 0
  | succ n ih =>
    rw [countLeading]
    split
    · exact Nat.succ_le_succ ih
    · exact Nat.zero_le _

/-- The bits counted are all `b` (R340, R341). -/
theorem getLsbD_of_lt_countLeading {b : Bool} {v : Word} {n k : Nat} (h : k < countLeading b v n) :
    v.getLsbD (n - 1 - k) = b := by
  induction n generalizing k with
  | zero => exact absurd h (Nat.not_lt_zero k)
  | succ n ih =>
    rw [countLeading] at h
    split at h
    case isTrue htop =>
      cases k with
      | zero => exact htop
      | succ k => simpa [Nat.sub_sub, Nat.add_comm] using ih (Nat.lt_of_succ_lt_succ h)
    case isFalse => exact absurd h (Nat.not_lt_zero k)

/-- The count stops at a bit that is not `b` (R340, R341). -/
theorem getLsbD_countLeading {b : Bool} {v : Word} {n : Nat} (h : countLeading b v n < n) :
    v.getLsbD (n - 1 - countLeading b v n) = !b := by
  induction n with
  | zero => exact absurd h (Nat.not_lt_zero _)
  | succ n ih =>
    rw [countLeading] at h ⊢
    split at h
    case isTrue htop =>
      rw [if_pos htop]
      simpa [Nat.sub_sub, Nat.add_comm] using ih (Nat.lt_of_succ_lt_succ h)
    case isFalse htop =>
      rw [if_neg htop]
      exact Bool.eq_not.mpr htop

theorem countOnes_eq_countP (v : Word) (n : Nat) :
    countOnes v n = (List.range n).countP fun j => v.getLsbD j := by
  induction n with
  | zero => rfl
  | succ n ih =>
    rw [countOnes, ih, List.range_succ, List.countP_append, List.countP_singleton]
    cases v.getLsbD n <;> rfl

/-- CNTLZ and CNTLO are one instruction with the bit `b` to count (R340, R341). -/
theorem completesReg_countLeading {r : Result} {q : Pred} {len : Nat} {named : List Reg} {rt : Reg} {b : Bool}
    {v : Word} {s : State} (h : s.Executes q named)
    (hr : r = writeReg q len named rt (BitVec.ofNat 64 (countLeading b v 64)) s) :
    ∃ n, completesReg r s len rt (BitVec.ofNat 64 n) ∧ n ≤ 64 ∧
      (∀ k, k < n → v.getLsbD (63 - k) = b) ∧ (n < 64 → v.getLsbD (63 - n) = !b) :=
  ⟨countLeading b v 64, completesReg_of_eq_writeReg h rfl hr, countLeading_le b v 64,
    fun _ => getLsbD_of_lt_countLeading, getLsbD_countLeading⟩

/-! ### Sign and zero extension -/

/-- The low `n` bits stay, the others are copies of the highest of them (R343 to R345). -/
theorem getLsbD_sext_setWidth {n j : Nat} (v : Word) (hn : 0 < n) (hj : j < 64) :
    (sext (v.setWidth n)).getLsbD j = if j < n then v.getLsbD j else v.getLsbD (n - 1) := by
  have hsign : (v.setWidth n).msb = v.getLsbD (n - 1) := by
    simp [BitVec.msb_eq_getLsbD_last, hn]
  rw [BitVec.getLsbD_signExtend, decide_eq_true hj, Bool.true_and, hsign]
  split
  case isTrue hlow => rw [BitVec.getLsbD_setWidth, decide_eq_true hlow, Bool.true_and]
  case isFalse => rfl

/-- The low `n` bits stay, the others are 0 (R346 to R348). -/
theorem getLsbD_zext_setWidth {n j : Nat} (v : Word) (hj : j < 64) :
    (zext (v.setWidth n)).getLsbD j = if j < n then v.getLsbD j else false := by
  simp [zext, hj]

/-! ### The instructions -/

/-- Settles O36: each instruction is one `writeReg`, of `countLeading`, `countOnes` or an extension of the low bits. -/
theorem countsAndExtensions : Obligations.CountsAndExtensions := by
  refine ⟨fun s q rt ra h => ⟨?cntlz, ?cntlo, ?cntpop, ?sxb, ?sxc, ?sxh, ?zxb, ?zxc, ?zxh⟩, fun q rt ra => ?encodings⟩
  case cntlz | cntlo => exact completesReg_countLeading h rfl
  case cntpop => exact completesReg_of_eq_writeReg h (congrArg _ (countOnes_eq_countP _ 64).symm) rfl
  case sxb | sxc | sxh =>
    exact completesBits_of_eq_writeReg h rfl fun j hj => getLsbD_sext_setWidth _ (by decide) hj
  case zxb | zxc | zxh => exact completesBits_of_eq_writeReg h rfl fun j hj => getLsbD_zext_setWidth _ hj
  case encodings => exact ⟨rfl, rfl, rfl, rfl, rfl, rfl, rfl, rfl, rfl⟩

end Sys2Proof.Machine
end

section
/-! PROOFS for 46_system.md: the TLB commands that switch or clear (R521, R526, R527, R530). -/

namespace Sys2Proof.Machine

/-! ### The TLB after a command -/

/-- With the TLB off a virtual address is its own physical address (R527). -/
theorem translate_of_tlb_disabled {s : State} (h : s.tlb.enabled = false) (va : Word) :
    s.translate va = .hit { pa := va, entry := none } := by
  rw [State.translate, if_neg (by rw [h]; exact Bool.false_ne_true)]

theorem tlbEntry_entries_map (s : State) (f : TlbEntry → TlbEntry) (npc : Word) (i : BitVec 6) :
    State.tlbEntry { s with tlb := { s.tlb with entries := s.tlb.entries.map f }, pc := npc } i = f (s.tlbEntry i) :=
  Vector.getElem_map ..

/-! ### The commands in kernel mode -/

section
variable {s : State} {q : Pred}

theorem exec_tlbnop_kernel (h : s.holds q = true) (hk : s.kernel = true) :
    exec (.tlbnop q) s = .next (s.setPc (s.npc 4)) := by
  change execTlbnop q s = _
  exact tlbCommand_runs h hk

theorem exec_tlben_kernel (h : s.holds q = true) (hk : s.kernel = true) :
    exec (.tlben q) s = .next { s with tlb := { s.tlb with enabled := true }, pc := s.npc 4 } := by
  change execTlben q s = _
  exact tlbCommand_runs h hk

theorem exec_tlbdis_kernel (h : s.holds q = true) (hk : s.kernel = true) :
    exec (.tlbdis q) s = .next { s with tlb := { s.tlb with enabled := false }, pc := s.npc 4 } := by
  change execTlbdis q s = _
  exact tlbCommand_runs h hk

theorem exec_tlbinv_kernel (h : s.holds q = true) (hk : s.kernel = true) :
    exec (.tlbinv q) s = .next { s with
      tlb := { s.tlb with entries := s.tlb.entries.map fun e => { e with v := false } }, pc := s.npc 4 } := by
  change execTlbinv q s = _
  exact tlbCommand_runs h hk

end

/-- Settles O57: each command's next state is written out by its equation, so what it leaves alone is there to read;
with the TLB off every translation is the identity, and an entry after TLBINV is the cleared old one. -/
theorem tlbSwitchCommands : Obligations.TlbSwitchCommands := by
  refine fun s q h hk => ⟨?nop, ⟨_, exec_tlben_kernel h hk, rfl, rfl, fun _ => rfl, rfl⟩,
    ⟨_, exec_tlbdis_kernel h hk, rfl, rfl, fun _ => rfl, rfl, ?identity⟩,
    ⟨_, exec_tlbinv_kernel h hk, ?cleared, rfl, fun _ => rfl, rfl⟩⟩
  case nop =>
    rw [exec_tlbnop_kernel h hk]
    exact setPc_completes s (s.npc 4)
  case identity => exact translate_of_tlb_disabled rfl
  case cleared => exact tlbEntry_entries_map s (fun e => { e with v := false }) (s.npc 4)

end Sys2Proof.Machine
end

section
/-! PROOFS for 60_exceptions.md: TLB misses (R592, R593) and the three returns (R580 to R582). -/

namespace Sys2Proof.Machine

/-! ### TLB misses -/

/-- When no entry matches, the set of the address has no hit either (20_memory.md R102). -/
theorem tlbHits_eq_nil {s : State} {va : Word}
    (hno : ∀ i, entryMatches (s.tlbEntry i) s.tlb.pageSize s.asid va = false) : s.tlbHits va = [] :=
  List.filter_eq_nil_iff.mpr fun i _ => Bool.eq_false_iff.mp (hno i)

theorem translate_eq_miss {s : State} {va : Word} (hon : s.tlb.enabled = true) (hsize : s.tlb.pageSize.toNat < 5)
    (hno : ∀ i, entryMatches (s.tlbEntry i) s.tlb.pageSize s.asid va = false) : s.translate va = .miss := by
  rw [State.translate, if_pos hon, if_neg (Nat.not_le.mpr hsize), tlbHits_eq_nil hno]

/-- DMA keeps the first miss (20_memory.md R104); nothing else of the state moves. -/
theorem recordDataMiss_eq (s : State) (va : Word) :
    s.recordDataMiss va = { s with tlb := { s.tlb with dma := if s.tlb.dma = 0 then va else s.tlb.dma } } := by
  unfold State.recordDataMiss
  split <;> rfl

/-- IMA keeps the first miss (20_memory.md R104); nothing else of the state moves. -/
theorem recordFetchMiss_eq (s : State) (va : Word) :
    s.recordFetchMiss va = { s with tlb := { s.tlb with ima := if s.tlb.ima = 0 then va else s.tlb.ima } } := by
  unfold State.recordFetchMiss
  split <;> rfl

/-- A data access that passes the checks before translation and misses (20_memory.md R91). -/
theorem dataCheck_eq_raise_of_miss {s : State} {k : AccessKind} {slot : Nat} {sg : SegReg} {off : Word} {n : Nat}
    (haligned : (addSegment (s.segmentBase slot sg) off).toNat % n = 0)
    (hlimit : limitFault (s.segmentLimit slot sg) off = false)
    (hpage : inLastPage (addSegment (s.segmentBase slot sg) off) = false)
    (hmiss : s.translate (addSegment (s.segmentBase slot sg) off) = .miss) :
    dataCheck s k slot sg off n =
      .raise vecDataMiss (s.recordDataMiss (addSegment (s.segmentBase slot sg) off)) := by
  simp [dataCheck, haligned, hlimit, hpage, hmiss]

/-- A byte of the unit that passes the checks before translation and misses (20_memory.md R97). -/
theorem fetchAddress_eq_raise_of_miss {s : State} {k : Nat}
    (hlimit : nonSegmented (seq s.pc k) = true ∨ limitFault (s.segmentLimit (8 + k) 7) (seq s.pc k) = false)
    (hpage : inLastPage (s.fetchVa (8 + k) (seq s.pc k)) = false)
    (hmiss : s.translate (s.fetchVa (8 + k) (seq s.pc k)) = .miss) :
    fetchAddress s k = .raise vecFetchMiss (s.recordFetchMiss (s.fetchVa (8 + k) (seq s.pc k))) := by
  have hpasses : (!nonSegmented (seq s.pc k) && limitFault (s.segmentLimit (8 + k) 7) (seq s.pc k)) = false := by
    rwa [Bool.and_eq_false_iff, Bool.not_eq_false']
  simp only [fetchAddress, hpasses, hpage, hmiss, Bool.false_eq_true, if_false]

/-- A fetched byte is the checked address's, so the address's exception is the byte's. -/
theorem fetchByte_eq_raise {s u : State} {k : Nat} {v : BitVec 8} (h : fetchAddress s k = .raise v u) :
    fetchByte s k = .raise v u := by
  rw [fetchByte, h]
  rfl

/-- Settles O24: no match makes the translation a miss, the check then raises from the state with the address recorded,
and the entry saves the address of the unit. -/
theorem tlbMissesTaken : Obligations.TlbMissesTaken := by
  refine ⟨fun s k slot sg off n f hon hsize hno haligned hlimit hpage harea => ?data,
    fun s k f hon hsize hno hlimit hpage harea => ?fetch⟩
  case data =>
    rw [dataCheck_eq_raise_of_miss haligned hlimit hpage (translate_eq_miss hon hsize hno), recordDataMiss_eq]
    exact raiseException_raises harea
  case fetch =>
    rw [fetchByte_eq_raise (fetchAddress_eq_raise_of_miss hlimit hpage (translate_eq_miss hon hsize hno)),
      recordFetchMiss_eq]
    exact raiseException_raises harea

/-! ### The three returns -/

/-- C1 to C14 read what was last written, whatever the address after the unit (10_state.md R27, R29). -/
theorem State.codeReg_of_ne (s : State) (npc : Word) {c : CodeReg} (h0 : c ≠ 0) (h15 : c ≠ 15) :
    s.codeReg npc c = s.code[c.toNat]'c.isLt := by
  rw [State.codeReg, if_neg h0, if_neg h15]

theorem levelDown_toNat (n : BitVec 8) : (levelDown n).toNat = n.toNat - 1 := by
  unfold levelDown
  split
  case isTrue h => rw [h]; rfl
  case isFalse h => bv_omega

/-- RTI's mask clears IM and no other bit (R582). -/
theorem getLsbD_srOnReturn_mask {j : Nat} (hj : j < 32) : (~~~(0x8000#32)).getLsbD j = decide (j ≠ 15) := by
  have him : 0x8000#32 = BitVec.twoPow 32 15 := rfl
  simp [him, hj]

/-- A bit of the low half comes from the backup half (R582). -/
theorem getLsbD_srOnReturn_low {sr : BitVec 32} {j : Nat} (hj : j < 16) :
    (srOnReturn sr).getLsbD j = (sr.getLsbD (16 + j) && decide (j ≠ 15)) := by
  rw [srOnReturn, BitVec.getLsbD_and, getLsbD_srOnReturn_mask (by omega)]
  congr 1
  refine BitVec.getLsbD_append.trans ?_
  simp [hj]

/-- The backup half stays as it was (R582). -/
theorem getLsbD_srOnReturn_high {sr : BitVec 32} {j : Nat} (hj : 16 ≤ j) :
    (srOnReturn sr).getLsbD j = sr.getLsbD j := by
  by_cases hwidth : j < 32
  case pos =>
    rw [srOnReturn, BitVec.getLsbD_and, getLsbD_srOnReturn_mask hwidth, decide_eq_true (by omega), Bool.and_true]
    refine BitVec.getLsbD_append.trans ?_
    rw [if_neg (by omega), BitVec.getLsbD_extractLsb', decide_eq_true (by omega), Bool.true_and,
      Nat.add_sub_cancel' hj]
  case neg => rw [BitVec.getLsbD_of_ge _ _ (by omega), BitVec.getLsbD_of_ge _ _ (by omega)]

/-- A kernel-only instruction without registers, its predicate true. -/
theorem guarded_privileged_kernel {q : Pred} {len : Nat} {s : State} {r : Result} (h : s.holds q = true)
    (hk : s.kernel = true) : (guarded q len [] s fun _ => privileged s r) = r := by
  rw [guarded_executes (executes_nil h), privileged_kernel hk]

/-- In application mode it takes the privilege violation (60_exceptions.md R591). -/
theorem guarded_privileged_raises {q : Pred} {len : Nat} {s : State} {r : Result} (h : s.holds q = true)
    (hk : s.kernel = false) (harea : s.vectorInArea 245) :
    raises (guarded q len [] s fun _ => privileged s r) s 245 s.pc := by
  rw [guarded_executes (executes_nil h), privileged_application hk]
  exact raiseException_raises harea

theorem exec_rte_kernel {q : Pred} {s : State} (h : s.holds q = true) (hk : s.kernel = true) :
    exec (.rte q) s = returnFromException 13 s :=
  guarded_privileged_kernel h hk

theorem exec_rtd_kernel {q : Pred} {s : State} (h : s.holds q = true) (hk : s.kernel = true) :
    exec (.rtd q) s = returnFromException 11 s :=
  guarded_privileged_kernel h hk

theorem exec_rti_kernel {q : Pred} {s : State} (h : s.holds q = true) (hk : s.kernel = true) :
    exec (.rti q) s = returnFromInterrupt s :=
  guarded_privileged_kernel h hk

/-- RTE and RTD are one return, from a link register that is neither C0 nor C15 (R580, R581). -/
theorem returnFromException_completes (s : State) {link : CodeReg} (h0 : link ≠ 0) (h15 : link ≠ 15) :
    ∃ t, returnFromException link s = .next t ∧ (∀ n, t.pc = s.codeReg n link) ∧ t.exl.toNat = s.exl.toNat - 1 ∧
      SameMemory s t ∧ { t with exl := s.exl, pc := s.pc } = s :=
  ⟨_, rfl, fun n => (State.codeReg_of_ne s n h0 h15).symm, levelDown_toNat s.exl, fun _ => rfl, rfl⟩

/-- Settles O53: each return is a kernel-only instruction without registers. RTE and RTD are one return from C13 or C11;
RTI's SR is read bit by bit. -/
theorem returnsFromExceptions : Obligations.ReturnsFromExceptions := by
  refine ⟨fun s q h hk => ⟨?rte, ?rtd, ?rti⟩, fun s q h hk harea => ⟨?rteRaises, ?rtdRaises, ?rtiRaises⟩,
    fun q => ⟨rfl, rfl, rfl⟩, rfl, rfl, rfl⟩
  case rte =>
    rw [exec_rte_kernel h hk]
    exact returnFromException_completes s (by decide) (by decide)
  case rtd =>
    rw [exec_rtd_kernel h hk]
    exact returnFromException_completes s (by decide) (by decide)
  case rti =>
    rw [exec_rti_kernel h hk]
    refine ⟨_, rfl, fun n => ?pc, ?mask, fun j hj => ?low, fun j hj => ?high, rfl, fun _ => rfl, rfl⟩
    case pc => exact (State.codeReg_of_ne (c := 14) s n (by decide) (by decide)).symm
    case mask => exact (getLsbD_srOnReturn_low (by decide)).trans (Bool.and_false _)
    case low => rw [getLsbD_srOnReturn_low (by omega), decide_eq_true (by omega), Bool.and_true]
    case high => exact getLsbD_srOnReturn_high hj
  case rteRaises | rtdRaises | rtiRaises => exact guarded_privileged_raises h hk harea

end Sys2Proof.Machine
end

section
/-! PROOFS for 30_encoding.md: what the encoder writes the decoder reads back, whatever bytes follow (R130 to R166). -/

namespace Sys2Proof.Machine

/-! ### Numbers and their bytes (R130) -/

theorem valueOfBytes_append (bs rest : List Byte) :
    valueOfBytes (bs ++ rest) = valueOfBytes bs + 256 ^ bs.length * valueOfBytes rest := by
  induction bs with
  | nil => simp [valueOfBytes]
  | cons b bs ih =>
    rw [List.cons_append, valueOfBytes, ih, valueOfBytes, List.length_cons]
    ring

theorem valueOfBytes_bytesOfValue (n v : Nat) : valueOfBytes (bytesOfValue n v) = v % 256 ^ n := by
  induction n generalizing v with
  | zero => simp [bytesOfValue, valueOfBytes, Nat.mod_one]
  | succ n ih =>
    rw [pow_succ', Nat.mod_mul, bytesOfValue, valueOfBytes, ih, BitVec.toNat_ofNat]

/-- A field that lies within the bytes of an instruction does not see the bytes after it. -/
theorem field_encoded {n v lo w : Nat} (rest : List Byte) (h : lo + w ≤ 8 * n) :
    field (valueOfBytes (bytesOfValue n v ++ rest)) lo w = field v lo w := by
  have hpow : 256 ^ n = 2 ^ (8 * n) := by rw [Nat.pow_mul]
  apply BitVec.eq_of_getLsbD_eq
  intro j hj
  rw [valueOfBytes_append, length_bytesOfValue, valueOfBytes_bytesOfValue, hpow, Nat.add_comm]
  simp only [field, BitVec.getLsbD_ofNat, hj, decide_true, Bool.true_and, Nat.testBit_div_two_pow]
  rw [Nat.testBit_two_pow_mul_add _ (Nat.mod_lt _ (Nat.two_pow_pos _)), if_pos (by omega), Nat.testBit_mod_two_pow,
    decide_eq_true (by omega), Bool.true_and]

/-- A field is the bits of the value that it covers. -/
theorem field_eq_of_toNat {v lo w : Nat} {x : BitVec w} (h : v / 2 ^ lo % 2 ^ w = x.toNat) : field v lo w = x :=
  BitVec.eq_of_toNat_eq (by rw [field, BitVec.toNat_ofNat, h])

theorem toNat_field_eq {v lo w n : Nat} (h : v / 2 ^ lo % 2 ^ w = n) : (field v lo w).toNat = n := by
  rw [field, BitVec.toNat_ofNat, h]

/-! ### The first two bytes (R132, R133) -/

theorem predByte_lt (q : Pred) : predByte q < 256 := by
  cases q with
  | never | always => decide
  | test p c =>
    have hp := p.isLt
    have hc := codeOfCond_bounds c
    simp only [predByte]
    omega

theorem firstByte_predByte (q : Pred) : firstByte (BitVec.ofNat 8 (predByte q)) = .pred q := by
  cases q with
  | never | always => rfl
  | test p c => revert p; cases c <;> decide

/-- The value of an instruction opens with the predicate byte and the opcode byte. -/
def Opens (v : Nat) (q : Pred) (op : Nat) : Prop := v % 2 ^ 16 = encHead q op

theorem field_first_of_opens {v op : Nat} {q : Pred} (h : Opens v q op) :
    field v 0 8 = BitVec.ofNat 8 (predByte q) := by
  have hq := predByte_lt q
  apply field_eq_of_toNat
  rw [Opens, encHead] at h
  rw [BitVec.toNat_ofNat]
  omega

theorem toNat_field_second_of_opens {v op : Nat} {q : Pred} (h : Opens v q op) (hop : op < 256) :
    (field v 8 8).toNat = op := by
  have hq := predByte_lt q
  apply toNat_field_eq
  rw [Opens, encHead] at h
  omega

theorem decode_of_opens {n v op : Nat} {q : Pred} (rest : List Byte) (hn : 2 ≤ n) (h : Opens v q op) :
    decode (bytesOfValue n v ++ rest) = decodePredicated q (valueOfBytes (bytesOfValue n v ++ rest)) := by
  rw [decode, decodeValue, field_encoded rest (by omega), field_first_of_opens h, firstByte_predByte]

/-- From 40h on the opcode byte alone chooses the row of the opcode map (R160). -/
theorem decode_of_opens_opcode {n v op : Nat} {q : Pred} (rest : List Byte) (hn : 2 ≤ n) (h : Opens v q op)
    (hlo : 0x40 ≤ op) (hhi : op < 256) :
    decode (bytesOfValue n v ++ rest) = decodeOpcode q op (valueOfBytes (bytesOfValue n v ++ rest)) := by
  have hop : (field (valueOfBytes (bytesOfValue n v ++ rest)) 8 8).toNat = op := by
    rw [field_encoded rest (by omega), toNat_field_second_of_opens h hhi]
  rw [decode_of_opens rest hn h]
  simp only [decodePredicated, hop]
  rw [if_neg (by omega), if_neg (by omega), if_neg (by omega), if_neg (by omega)]

/-! ### The formats (R143 to R155)

For each format: where `sub` is what the opcode map does with the fields as the format draws them, decoding what the
encoder wrote gives `sub` of the operands. -/

section
variable {q : Pred} {op : Nat} (rest : List Byte)

theorem decode_encRR {func : Nat} {rt ra rb : BitVec 6}
    (sub : Nat → BitVec 6 → BitVec 6 → BitVec 6 → Decoded)
    (hop : 0x40 ≤ op ∧ op < 0x100) (hfunc : func < 64)
    (hsub : ∀ v, decodeOpcode q op v = sub (field v 34 6).toNat (field v 28 6) (field v 16 6) (field v 22 6)) :
    decode (bytesOfValue 5 (encRR q op func rt ra rb) ++ rest) = sub func rt ra rb := by
  have hv : encRR q op func rt ra rb = predByte q + 2 ^ 8 * op + 2 ^ 16 * ra.toNat + 2 ^ 22 * rb.toNat +
    2 ^ 28 * rt.toNat + 2 ^ 34 * func := rfl
  have hq := predByte_lt q
  rw [decode_of_opens_opcode (q := q) (op := op) rest (by decide) (by rw [Opens, encHead]; omega) hop.1 hop.2, hsub]
  simp (disch := decide) only [field_encoded]
  rw [toNat_field_eq (n := func) (by omega), field_eq_of_toNat (x := rt) (by omega),
    field_eq_of_toNat (x := ra) (by omega), field_eq_of_toNat (x := rb) (by omega)]

theorem decode_encRI {rt ra : Reg} {imm : BitVec 12}
    (sub : BitVec 6 → BitVec 6 → BitVec 12 → Decoded)
    (hop : 0x40 ≤ op ∧ op < 0x100)
    (hsub : ∀ v, decodeOpcode q op v = sub (field v 22 6) (field v 16 6) (field v 28 12)) :
    decode (bytesOfValue 5 (encRI q op rt ra imm) ++ rest) = sub rt ra imm := by
  have hv : encRI q op rt ra imm = predByte q + 2 ^ 8 * op + 2 ^ 16 * ra.toNat + 2 ^ 22 * rt.toNat +
    2 ^ 28 * imm.toNat := rfl
  have hq := predByte_lt q
  rw [decode_of_opens_opcode (q := q) (op := op) rest (by decide) (by rw [Opens, encHead]; omega) hop.1 hop.2, hsub]
  simp (disch := decide) only [field_encoded]
  rw [field_eq_of_toNat (x := rt) (by omega), field_eq_of_toNat (x := ra) (by omega),
    field_eq_of_toNat (x := imm) (by omega)]

theorem decode_encRI10 {rt : Reg} {imm : BitVec 10}
    (sub : BitVec 6 → BitVec 10 → Decoded)
    (hop : 0x40 ≤ op ∧ op < 0x100)
    (hsub : ∀ v, decodeOpcode q op v = sub (field v 16 6) (field v 22 10)) :
    decode (bytesOfValue 4 (encRI10 q op rt imm) ++ rest) = sub rt imm := by
  have hv : encRI10 q op rt imm = predByte q + 2 ^ 8 * op + 2 ^ 16 * rt.toNat + 2 ^ 22 * imm.toNat := rfl
  have hq := predByte_lt q
  rw [decode_of_opens_opcode (q := q) (op := op) rest (by decide) (by rw [Opens, encHead]; omega) hop.1 hop.2, hsub]
  simp (disch := decide) only [field_encoded]
  rw [field_eq_of_toNat (x := rt) (by omega), field_eq_of_toNat (x := imm) (by omega)]

theorem decode_encR {func : Nat} {rt ra : BitVec 6}
    (sub : Nat → BitVec 6 → BitVec 6 → Decoded)
    (hop : 0x40 ≤ op ∧ op < 0x100) (hfunc : func < 16)
    (hsub : ∀ v, decodeOpcode q op v = sub (field v 28 4).toNat (field v 22 6) (field v 16 6)) :
    decode (bytesOfValue 4 (encR q op func rt ra) ++ rest) = sub func rt ra := by
  have hv : encR q op func rt ra = predByte q + 2 ^ 8 * op + 2 ^ 16 * ra.toNat + 2 ^ 22 * rt.toNat +
    2 ^ 28 * func := rfl
  have hq := predByte_lt q
  rw [decode_of_opens_opcode (q := q) (op := op) rest (by decide) (by rw [Opens, encHead]; omega) hop.1 hop.2, hsub]
  simp (disch := decide) only [field_encoded]
  rw [toNat_field_eq (n := func) (by omega), field_eq_of_toNat (x := rt) (by omega),
    field_eq_of_toNat (x := ra) (by omega)]

theorem decode_encMem {sg : SegReg} {r ra : BitVec 6} {disp : BitVec 9}
    (sub : BitVec 3 → BitVec 6 → BitVec 6 → BitVec 9 → Decoded)
    (hop : 0x40 ≤ op ∧ op < 0x100)
    (hsub : ∀ v, decodeOpcode q op v = sub (field v 37 3) (field v 22 6) (field v 16 6) (field v 28 9)) :
    decode (bytesOfValue 5 (encMem q op sg r ra disp) ++ rest) = sub sg r ra disp := by
  have hv : encMem q op sg r ra disp = predByte q + 2 ^ 8 * op + 2 ^ 16 * ra.toNat + 2 ^ 22 * r.toNat +
    2 ^ 28 * disp.toNat + 2 ^ 37 * sg.toNat := rfl
  have hq := predByte_lt q
  rw [decode_of_opens_opcode (q := q) (op := op) rest (by decide) (by rw [Opens, encHead]; omega) hop.1 hop.2, hsub]
  simp (disch := decide) only [field_encoded]
  rw [field_eq_of_toNat (x := sg) (by omega), field_eq_of_toNat (x := r) (by omega),
    field_eq_of_toNat (x := ra) (by omega), field_eq_of_toNat (x := disp) (by omega)]

theorem decode_encMemX {sg : SegReg} {sc : BitVec 2} {rc ra rb : Reg}
    (sub : BitVec 3 → BitVec 2 → BitVec 6 → BitVec 6 → BitVec 6 → Decoded)
    (hop : 0x40 ≤ op ∧ op < 0x100)
    (hsub : ∀ v, decodeOpcode q op v = sub (field v 37 3) (field v 34 2) (field v 28 6) (field v 16 6) (field v 22 6)) :
    decode (bytesOfValue 5 (encMemX q op sg sc rc ra rb) ++ rest) = sub sg sc rc ra rb := by
  have hv : encMemX q op sg sc rc ra rb = predByte q + 2 ^ 8 * op + 2 ^ 16 * ra.toNat + 2 ^ 22 * rb.toNat +
    2 ^ 28 * rc.toNat + 2 ^ 34 * sc.toNat + 2 ^ 37 * sg.toNat := rfl
  have hq := predByte_lt q
  rw [decode_of_opens_opcode (q := q) (op := op) rest (by decide) (by rw [Opens, encHead]; omega) hop.1 hop.2, hsub]
  simp (disch := decide) only [field_encoded]
  rw [field_eq_of_toNat (x := sg) (by omega), field_eq_of_toNat (x := sc) (by omega),
    field_eq_of_toNat (x := rc) (by omega), field_eq_of_toNat (x := ra) (by omega),
      field_eq_of_toNat (x := rb) (by omega)]

theorem decode_encRRR4 {rt ra rb rc : Reg}
    (sub : BitVec 6 → BitVec 6 → BitVec 6 → BitVec 6 → Decoded)
    (hop : 0x40 ≤ op ∧ op < 0x100)
    (hsub : ∀ v, decodeOpcode q op v = sub (field v 34 6) (field v 16 6) (field v 22 6) (field v 28 6)) :
    decode (bytesOfValue 5 (encRRR4 q op rt ra rb rc) ++ rest) = sub rt ra rb rc := by
  have hv : encRRR4 q op rt ra rb rc = predByte q + 2 ^ 8 * op + 2 ^ 16 * ra.toNat + 2 ^ 22 * rb.toNat +
    2 ^ 28 * rc.toNat + 2 ^ 34 * rt.toNat := rfl
  have hq := predByte_lt q
  rw [decode_of_opens_opcode (q := q) (op := op) rest (by decide) (by rw [Opens, encHead]; omega) hop.1 hop.2, hsub]
  simp (disch := decide) only [field_encoded]
  rw [field_eq_of_toNat (x := rt) (by omega), field_eq_of_toNat (x := ra) (by omega),
    field_eq_of_toNat (x := rb) (by omega), field_eq_of_toNat (x := rc) (by omega)]

theorem decode_encJI {size : Nat} {sg : SegReg} {ct : CodeReg} {ra : Reg} {disp : BitVec 9}
    (sub : Nat → BitVec 3 → BitVec 4 → BitVec 6 → BitVec 9 → Decoded) (hsize : size < 4)
    (hsub : ∀ v, decodeOpcode q 0x8D v =
      sub (field v 26 2).toNat (field v 37 3) (field v 22 4) (field v 16 6) (field v 28 9)) :
    decode (bytesOfValue 5 (encJI q size sg ct ra disp) ++ rest) = sub size sg ct ra disp := by
  have hv : encJI q size sg ct ra disp = predByte q + 2 ^ 8 * 0x8D + 2 ^ 16 * ra.toNat + 2 ^ 22 * ct.toNat +
    2 ^ 26 * size + 2 ^ 28 * disp.toNat + 2 ^ 37 * sg.toNat := rfl
  have hq := predByte_lt q
  rw [decode_of_opens_opcode (q := q) (op := 0x8D) rest (by decide) (by rw [Opens, encHead]; omega) (by decide)
    (by decide), hsub]
  simp (disch := decide) only [field_encoded]
  rw [toNat_field_eq (n := size) (by omega), field_eq_of_toNat (x := sg) (by omega),
    field_eq_of_toNat (x := ct) (by omega), field_eq_of_toNat (x := ra) (by omega),
      field_eq_of_toNat (x := disp) (by omega)]

theorem decode_encJIX {size : Nat} {sg : SegReg} {ct : CodeReg} {ra rb : Reg}
    (sub : Nat → BitVec 3 → BitVec 4 → BitVec 6 → BitVec 6 → Decoded) (hsize : size < 4)
    (hsub : ∀ v, decodeOpcode q 0xB7 v =
      sub (field v 32 2).toNat (field v 37 3) (field v 28 4) (field v 16 6) (field v 22 6)) :
    decode (bytesOfValue 5 (encJIX q size sg ct ra rb) ++ rest) = sub size sg ct ra rb := by
  have hv : encJIX q size sg ct ra rb = predByte q + 2 ^ 8 * 0xB7 + 2 ^ 16 * ra.toNat + 2 ^ 22 * rb.toNat +
    2 ^ 28 * ct.toNat + 2 ^ 32 * size + 2 ^ 37 * sg.toNat := rfl
  have hq := predByte_lt q
  rw [decode_of_opens_opcode (q := q) (op := 0xB7) rest (by decide) (by rw [Opens, encHead]; omega) (by decide)
    (by decide), hsub]
  simp (disch := decide) only [field_encoded]
  rw [toNat_field_eq (n := size) (by omega), field_eq_of_toNat (x := sg) (by omega),
    field_eq_of_toNat (x := ct) (by omega), field_eq_of_toNat (x := ra) (by omega),
      field_eq_of_toNat (x := rb) (by omega)]

theorem decode_cas_value {rt ra rb rc : Reg} {disp : BitVec 8}
    (sub : BitVec 6 → BitVec 6 → BitVec 6 → BitVec 6 → BitVec 8 → Decoded)
    (hsub : ∀ v, decodeOpcode q 0x97 v =
      sub (field v 34 6) (field v 16 6) (field v 22 6) (field v 28 6) (field v 40 8)) :
    decode (bytesOfValue 6 (encRRR4 q 0x97 rt ra rb rc + 2 ^ 40 * disp.toNat) ++ rest) = sub rt ra rb rc disp := by
  have hv : encRRR4 q 0x97 rt ra rb rc + 2 ^ 40 * disp.toNat = predByte q + 2 ^ 8 * 0x97 + 2 ^ 16 * ra.toNat +
    2 ^ 22 * rb.toNat + 2 ^ 28 * rc.toNat + 2 ^ 34 * rt.toNat + 2 ^ 40 * disp.toNat := rfl
  have hq := predByte_lt q
  rw [decode_of_opens_opcode (q := q) (op := 0x97) rest (by decide) (by rw [Opens, encHead]; omega) (by decide)
    (by decide), hsub]
  simp (disch := decide) only [field_encoded]
  rw [field_eq_of_toNat (x := rt) (by omega), field_eq_of_toNat (x := ra) (by omega),
    field_eq_of_toNat (x := rb) (by omega), field_eq_of_toNat (x := rc) (by omega),
      field_eq_of_toNat (x := disp) (by omega)]

theorem decode_encBF {func : Nat} {rt ra mb me : BitVec 6}
    (sub : Nat → BitVec 6 → BitVec 6 → BitVec 6 → BitVec 6 → Decoded) (hfunc : func < 16)
    (hsub : ∀ v, decodeOpcode q 0xAA v =
      sub (field v 40 4).toNat (field v 22 6) (field v 16 6) (field v 28 6) (field v 34 6)) :
    decode (bytesOfValue 6 (encBF q func rt ra mb me) ++ rest) = sub func rt ra mb me := by
  have hv : encBF q func rt ra mb me = predByte q + 2 ^ 8 * 0xAA + 2 ^ 16 * ra.toNat + 2 ^ 22 * rt.toNat +
    2 ^ 28 * mb.toNat + 2 ^ 34 * me.toNat + 2 ^ 40 * func := rfl
  have hq := predByte_lt q
  rw [decode_of_opens_opcode (q := q) (op := 0xAA) rest (by decide) (by rw [Opens, encHead]; omega) (by decide)
    (by decide), hsub]
  simp (disch := decide) only [field_encoded]
  rw [toNat_field_eq (n := func) (by omega), field_eq_of_toNat (x := rt) (by omega),
    field_eq_of_toNat (x := ra) (by omega), field_eq_of_toNat (x := mb) (by omega),
      field_eq_of_toNat (x := me) (by omega)]

theorem decode_encTlb {cmd : Nat} {tn : BitVec 4} {r : Reg}
    (sub : Nat → BitVec 4 → BitVec 6 → Decoded) (hcmd : cmd < 16)
    (hsub : ∀ v, decodeOpcode q 0xF0 v = sub (field v 16 4).toNat (field v 20 4) (field v 24 6)) :
    decode (bytesOfValue 4 (encTlb q cmd tn.toNat r.toNat) ++ rest) = sub cmd tn r := by
  have hv : encTlb q cmd tn.toNat r.toNat = predByte q + 2 ^ 8 * 0xF0 + 2 ^ 16 * cmd + 2 ^ 20 * tn.toNat +
    2 ^ 24 * r.toNat := rfl
  have hq := predByte_lt q
  rw [decode_of_opens_opcode (q := q) (op := 0xF0) rest (by decide) (by rw [Opens, encHead]; omega) (by decide)
    (by decide), hsub]
  simp (disch := decide) only [field_encoded]
  rw [toNat_field_eq (n := cmd) (by omega), field_eq_of_toNat (x := tn) (by omega),
    field_eq_of_toNat (x := r) (by omega)]

theorem decode_encCache {func : Nat} {ra : Reg}
    (sub : Nat → BitVec 6 → Decoded) (hfunc : func < 64)
    (hsub : ∀ v, decodeOpcode q 0x9F v = sub (field v 26 6).toNat (field v 16 6)) :
    decode (bytesOfValue 4 (encCache q func ra) ++ rest) = sub func ra := by
  have hv : encCache q func ra = predByte q + 2 ^ 8 * 0x9F + 2 ^ 16 * ra.toNat + 2 ^ 26 * func := rfl
  have hq := predByte_lt q
  rw [decode_of_opens_opcode (q := q) (op := 0x9F) rest (by decide) (by rw [Opens, encHead]; omega) (by decide)
    (by decide), hsub]
  simp (disch := decide) only [field_encoded]
  rw [toNat_field_eq (n := func) (by omega), field_eq_of_toNat (x := ra) (by omega)]

/-- The codes of sizes and directions are read back (45_string.md R460). -/
theorem sizeOfCode_codeOfSize (sz : Size) : sizeOfCode (BitVec.ofNat 2 (codeOfSize sz)) = sz := by cases sz <;> rfl

theorem directionOfCode_codeOfDirection (dir : Direction) :
    directionOfCode (BitVec.ofNat 1 (codeOfDirection dir)) = dir := by cases dir <;> rfl

theorem codeOfSize_lt (sz : Size) : codeOfSize sz < 4 := by cases sz <;> decide

theorem codeOfDirection_lt (dir : Direction) : codeOfDirection dir < 2 := by cases dir <;> decide

theorem decode_encStr {sg : SegReg} {sz : Size} {dir : Direction} {ra rb rc : Reg}
    (sub : SegReg → Size → Direction → Reg → Reg → Reg → Decoded) (hop : 0x40 ≤ op ∧ op < 0x100)
    (hsub : ∀ v, decodeOpcode q op v = sub (field v 37 3) (sizeOfCode (field v 34 2)) (directionOfCode (field v 36 1))
      (field v 16 6) (field v 22 6) (field v 28 6)) :
    decode (bytesOfValue 5 (encStr q op sg sz dir ra rb rc) ++ rest) = sub sg sz dir ra rb rc := by
  have hv : encStr q op sg sz dir ra rb rc = predByte q + 2 ^ 8 * op + 2 ^ 16 * ra.toNat + 2 ^ 22 * rb.toNat +
    2 ^ 28 * rc.toNat + 2 ^ 34 * codeOfSize sz + 2 ^ 36 * codeOfDirection dir + 2 ^ 37 * sg.toNat := rfl
  have hq := predByte_lt q
  have hsz := codeOfSize_lt sz
  have hdir := codeOfDirection_lt dir
  rw [decode_of_opens_opcode (q := q) (op := op) rest (by decide) (by rw [Opens, encHead]; omega) hop.1 hop.2, hsub]
  simp (disch := decide) only [field_encoded]
  rw [field_eq_of_toNat (x := sg) (by omega),
    field_eq_of_toNat (x := BitVec.ofNat 2 (codeOfSize sz)) (by rw [BitVec.toNat_ofNat]; omega),
    field_eq_of_toNat (x := BitVec.ofNat 1 (codeOfDirection dir)) (by rw [BitVec.toNat_ofNat]; omega),
    field_eq_of_toNat (x := ra) (by omega), field_eq_of_toNat (x := rb) (by omega),
    field_eq_of_toNat (x := rc) (by omega), sizeOfCode_codeOfSize, directionOfCode_codeOfDirection]

/-- Two nibbles and an operand of `w` bits above them, which fills the instruction (R149). -/
theorem decode_encNibbles {n w : Nat} {lo hi : BitVec 4} {x : BitVec w} (sub : BitVec 4 → BitVec 4 → BitVec w → Decoded)
    (hop : 0x40 ≤ op ∧ op < 0x100) (hn : 24 + w = 8 * n)
    (hsub : ∀ v, decodeOpcode q op v = sub (field v 16 4) (field v 20 4) (field v 24 w)) :
    decode (bytesOfValue n (encNibbles q op lo.toNat hi.toNat x.toNat) ++ rest) = sub lo hi x := by
  have hv : encNibbles q op lo.toNat hi.toNat x.toNat = predByte q + 2 ^ 8 * op + 2 ^ 16 * lo.toNat +
    2 ^ 20 * hi.toNat + 2 ^ 24 * x.toNat := rfl
  have hq := predByte_lt q
  have hx : encNibbles q op lo.toNat hi.toNat x.toNat / 2 ^ 24 = x.toNat := by omega
  rw [decode_of_opens_opcode (q := q) (op := op) rest (by omega) (by rw [Opens, encHead]; omega) hop.1 hop.2, hsub,
    field_encoded rest (by omega), field_encoded rest (by omega), field_encoded rest hn.le,
    field_eq_of_toNat (x := lo) (by omega), field_eq_of_toNat (x := hi) (by omega),
    field_eq_of_toNat (x := x) (by rw [hx, Nat.mod_eq_of_lt x.isLt])]

/-- An instruction without operands is its predicate byte and its opcode byte. -/
theorem decode_encHead (d : Decoded) (hop : 0x40 ≤ op ∧ op < 0x100) (hsub : ∀ v, decodeOpcode q op v = d) :
    decode (bytesOfValue 2 (encHead q op) ++ rest) = d := by
  have hv : encHead q op = predByte q + 2 ^ 8 * op := rfl
  have hq := predByte_lt q
  rw [decode_of_opens_opcode (q := q) (op := op) rest (by decide) (by rw [Opens]; omega) hop.1 hop.2, hsub]

/-- A map-only name with a function code of `w` bits at bit `lo` (47_map_only.md R545; log 27). -/
theorem decode_encHead_func {n lo w func : Nat} (sub : Nat → Decoded) (hop : 0x40 ≤ op ∧ op < 0x100)
    (hlo : lo = 28 ∨ lo = 34) (hn : lo + w = 8 * n) (hfunc : func < 2 ^ w)
    (hsub : ∀ v, decodeOpcode q op v = sub (field v lo w).toNat) :
    decode (bytesOfValue n (encHead q op + 2 ^ lo * func) ++ rest) = sub func := by
  have hv : encHead q op = predByte q + 2 ^ 8 * op := rfl
  have hq := predByte_lt q
  have hx : (encHead q op + 2 ^ lo * func) / 2 ^ lo = func := by obtain rfl | rfl := hlo <;> omega
  have hopens : Opens (encHead q op + 2 ^ lo * func) q op := by
    rw [Opens]
    obtain rfl | rfl := hlo <;> omega
  rw [decode_of_opens_opcode rest (by omega) hopens hop.1 hop.2, hsub, field_encoded rest hn.le,
    toNat_field_eq (by rw [hx, Nat.mod_eq_of_lt hfunc])]

/-! ### The instructions with a format of their own -/

theorem decode_encode_biti {pt : PredReg} {ra : Reg} {imm : BitVec 12} :
    decode (encode (.biti q pt ra imm) ++ rest) = .ok (.biti q pt ra imm) := by
  have hv : encodeValue (.biti q pt ra imm) = predByte q + 2 ^ 8 * 0x46 + 2 ^ 16 * ra.toNat + 2 ^ 22 * pt.toNat +
    2 ^ 28 * imm.toNat := rfl
  have hq := predByte_lt q
  have hlen : encodeLength (.biti q pt ra imm) = 5 := rfl
  rw [encode, hlen, decode_of_opens_opcode (q := q) (op := 0x46) rest (by decide) (by rw [Opens, encHead]; omega)
    (by decide) (by decide)]
  show Decoded.ok (.biti q (field _ 22 4) (field _ 16 6) (field _ 28 12)) = _
  simp (disch := decide) only [field_encoded]
  rw [field_eq_of_toNat (x := pt) (by omega),
    field_eq_of_toNat (x := ra) (by omega), field_eq_of_toNat (x := imm) (by omega)]

/-- STIX holds its constant in two parts (R151). -/
theorem decode_encode_stix {sc : BitVec 2} {imm : BitVec 10} {ra rb : Reg} :
    decode (encode (.stix q sc imm ra rb) ++ rest) = .ok (.stix q sc imm ra rb) := by
  have hv : encodeValue (.stix q sc imm ra rb) = predByte q + 2 ^ 8 * 0xC6 + 2 ^ 16 * ra.toNat + 2 ^ 22 * rb.toNat +
    2 ^ 28 * (imm.toNat % 2 ^ 6) + 2 ^ 34 * sc.toNat + 2 ^ 36 * (imm.toNat / 2 ^ 6) := rfl
  have hq := predByte_lt q
  have hlen : encodeLength (.stix q sc imm ra rb) = 5 := rfl
  rw [encode, hlen, decode_of_opens_opcode (q := q) (op := 0xC6) rest (by decide) (by rw [Opens, encHead]; omega)
    (by decide) (by decide)]
  show Decoded.ok (.stix q (field _ 34 2) (field _ 36 4 ++ field _ 28 6) (field _ 16 6) (field _ 22 6)) = _
  simp (disch := decide) only [field_encoded]
  rw [field_eq_of_toNat (x := sc) (by omega), field_eq_of_toNat (x := imm.extractLsb' 6 4) ?_,
    field_eq_of_toNat (x := imm.extractLsb' 0 6) ?_, field_eq_of_toNat (x := ra) (by omega),
    field_eq_of_toNat (x := rb) (by omega)]
  · rw [BitVec.extractLsb'_append_extractLsb'_eq_extractLsb' (by rfl), BitVec.extractLsb'_eq_self]
  · rw [BitVec.extractLsb'_toNat, Nat.shiftRight_zero]; omega
  · rw [BitVec.extractLsb'_toNat, Nat.shiftRight_eq_div_pow]; omega

theorem decode_encode_inc {sg o3 sz : BitVec 3} {ra : Reg} {disp : BitVec 9} {amt : BitVec 8} :
    decode (encode (.inc q sg o3 sz ra disp amt) ++ rest) = .ok (.inc q sg o3 sz ra disp amt) := by
  have hv : encodeValue (.inc q sg o3 sz ra disp amt) = predByte q + 2 ^ 8 * 0xC7 + 2 ^ 16 * ra.toNat +
    2 ^ 22 * sz.toNat + 2 ^ 25 * o3.toNat + 2 ^ 28 * disp.toNat + 2 ^ 37 * sg.toNat + 2 ^ 40 * amt.toNat := rfl
  have hq := predByte_lt q
  have hlen : encodeLength (.inc q sg o3 sz ra disp amt) = 6 := rfl
  rw [encode, hlen, decode_of_opens_opcode (q := q) (op := 0xC7) rest (by decide) (by rw [Opens, encHead]; omega)
    (by decide) (by decide)]
  show Decoded.ok (.inc q (field _ 37 3) (field _ 25 3) (field _ 22 3) (field _ 16 6) (field _ 28 9) (field _ 40 8)) = _
  simp (disch := decide) only [field_encoded]
  rw [field_eq_of_toNat (x := sg) (by omega), field_eq_of_toNat (x := o3) (by omega),
    field_eq_of_toNat (x := sz) (by omega), field_eq_of_toNat (x := ra) (by omega),
    field_eq_of_toNat (x := disp) (by omega), field_eq_of_toNat (x := amt) (by omega)]

theorem decode_encode_lwShort {sg : SegReg} {rt ra : Reg} :
    decode (encode (.lwShort q sg rt ra) ++ rest) = .ok (.lwShort q sg rt ra) := by
  have hv : encodeValue (.lwShort q sg rt ra) = predByte q + 2 ^ 8 * 0xD6 + 2 ^ 16 * ra.toNat + 2 ^ 22 * rt.toNat +
    2 ^ 29 * sg.toNat := rfl
  have hq := predByte_lt q
  have hlen : encodeLength (.lwShort q sg rt ra) = 4 := rfl
  rw [encode, hlen, decode_of_opens_opcode (q := q) (op := 0xD6) rest (by decide) (by rw [Opens, encHead]; omega)
    (by decide) (by decide)]
  show Decoded.ok (.lwShort q (field _ 29 3) (field _ 22 6) (field _ 16 6)) = _
  simp (disch := decide) only [field_encoded]
  rw [field_eq_of_toNat (x := sg) (by omega),
    field_eq_of_toNat (x := rt) (by omega), field_eq_of_toNat (x := ra) (by omega)]

theorem decode_encode_loop {disp : BitVec 8} : decode (encode (.loop q disp) ++ rest) = .ok (.loop q disp) := by
  have hv : encodeValue (.loop q disp) = predByte q + 2 ^ 8 * 0xA4 + 2 ^ 16 * disp.toNat := rfl
  have hq := predByte_lt q
  have hlen : encodeLength (.loop q disp) = 3 := rfl
  rw [encode, hlen, decode_of_opens_opcode (q := q) (op := 0xA4) rest (by decide) (by rw [Opens, encHead]; omega)
    (by decide) (by decide)]
  show Decoded.ok (.loop q (field _ 16 8)) = _
  simp (disch := decide) only [field_encoded]
  rw [field_eq_of_toNat (x := disp) (by omega)]

theorem decode_encode_stp {imm : BitVec 16} : decode (encode (.stp q imm) ++ rest) = .ok (.stp q imm) := by
  have hv : encodeValue (.stp q imm) = predByte q + 2 ^ 8 * 0xF6 + 2 ^ 16 * imm.toNat := rfl
  have hq := predByte_lt q
  have hlen : encodeLength (.stp q imm) = 4 := rfl
  rw [encode, hlen, decode_of_opens_opcode (q := q) (op := 0xF6) rest (by decide) (by rw [Opens, encHead]; omega)
    (by decide) (by decide)]
  show Decoded.ok (.stp q (field _ 16 16)) = _
  simp (disch := decide) only [field_encoded]
  rw [field_eq_of_toNat (x := imm) (by omega)]

/-! ### The rows below 40h (R147, R148) -/

theorem decodePredicated_tst {v : Nat} (h : (field v 8 8).toNat < 0x10) :
    decodePredicated q v = decodeTst q (field v 22 2).toNat (field v 8 4) (field v 16 6) := by
  simp only [decodePredicated, if_pos h]

theorem decodePredicated_cmp {v : Nat} (hlo : 0x10 ≤ (field v 8 8).toNat) (hhi : (field v 8 8).toNat < 0x20) :
    decodePredicated q v = decodeCmp q (field v 28 4).toNat (field v 8 4) (field v 16 6) (field v 22 6) := by
  simp only [decodePredicated, if_neg (Nat.not_lt.mpr hlo), if_pos hhi]

theorem decodePredicated_cmpi {v : Nat} (hlo : 0x20 ≤ (field v 8 8).toNat) (hhi : (field v 8 8).toNat < 0x30) :
    decodePredicated q v = .ok (.cmpi q (field v 8 4) (field v 16 6) (field v 22 10)) := by
  simp only [decodePredicated]
  rw [if_neg (by omega), if_neg (by omega), if_pos hhi]

theorem decodePredicated_br {v : Nat} (hlo : 0x30 ≤ (field v 8 8).toNat) (hhi : (field v 8 8).toNat < 0x40) :
    decodePredicated q v = .ok (.br q (field v 8 4 ++ field v 16 8)) := by
  simp only [decodePredicated]
  rw [if_neg (by omega), if_neg (by omega), if_neg (by omega), if_pos hhi]

/-- TST and the two map-only names that share its opcodes (47_map_only.md R545; log 27). -/
theorem decode_tst_value {o2 : Nat} {pt : PredReg} {ra : Reg} (ho2 : o2 < 4) :
    decode (bytesOfValue 3 (encHead q pt.toNat + 2 ^ 16 * ra.toNat + 2 ^ 22 * o2) ++ rest) =
      decodeTst q o2 pt ra := by
  have hv : encHead q pt.toNat = predByte q + 2 ^ 8 * pt.toNat := rfl
  have hq := predByte_lt q
  generalize hx : encHead q pt.toNat + 2 ^ 16 * ra.toNat + 2 ^ 22 * o2 = x
  have hop : (field (valueOfBytes (bytesOfValue 3 x ++ rest)) 8 8).toNat = pt.toNat := by
    rw [field_encoded rest (by omega), toNat_field_eq (n := pt.toNat) (by omega)]
  rw [decode_of_opens (q := q) (op := pt.toNat) rest (by omega) (by rw [Opens]; omega),
    decodePredicated_tst (by omega), field_encoded rest (by omega), field_encoded rest (by omega),
    field_encoded rest (by omega), toNat_field_eq (n := o2) (by omega), field_eq_of_toNat (x := pt) (by omega),
    field_eq_of_toNat (x := ra) (by omega)]

/-- CMP and the map-only name that shares its opcodes (47_map_only.md R545; log 27). -/
theorem decode_cmp_value {opc : Nat} {pt : PredReg} {ra rb : Reg} (hopc : opc < 16) :
    decode (bytesOfValue 4
        (encHead q (0x10 + pt.toNat) + 2 ^ 16 * ra.toNat + 2 ^ 22 * rb.toNat + 2 ^ 28 * opc) ++ rest) =
      decodeCmp q opc pt ra rb := by
  have hv : encHead q (0x10 + pt.toNat) = predByte q + 2 ^ 8 * (0x10 + pt.toNat) := rfl
  have hq := predByte_lt q
  generalize hx : encHead q (0x10 + pt.toNat) + 2 ^ 16 * ra.toNat + 2 ^ 22 * rb.toNat + 2 ^ 28 * opc = x
  have hop : (field (valueOfBytes (bytesOfValue 4 x ++ rest)) 8 8).toNat = 0x10 + pt.toNat := by
    rw [field_encoded rest (by decide), toNat_field_eq (n := 0x10 + pt.toNat) (by omega)]
  rw [decode_of_opens (q := q) (op := 0x10 + pt.toNat) rest (by decide) (by rw [Opens]; omega),
    decodePredicated_cmp (by omega) (by omega)]
  simp (disch := decide) only [field_encoded]
  rw [toNat_field_eq (n := opc) (by omega), field_eq_of_toNat (x := pt) (by omega),
    field_eq_of_toNat (x := ra) (by omega), field_eq_of_toNat (x := rb) (by omega)]

theorem decode_encode_cmpi {pt : PredReg} {ra : Reg} {imm : BitVec 10} :
    decode (encode (.cmpi q pt ra imm) ++ rest) = .ok (.cmpi q pt ra imm) := by
  have hv : encodeValue (.cmpi q pt ra imm) = predByte q + 2 ^ 8 * (0x20 + pt.toNat) + 2 ^ 16 * ra.toNat +
    2 ^ 22 * imm.toNat := rfl
  have hlen : encodeLength (.cmpi q pt ra imm) = 4 := rfl
  have hq := predByte_lt q
  rw [encode, hlen]
  generalize encodeValue (.cmpi q pt ra imm) = x at hv ⊢
  have hop : (field (valueOfBytes (bytesOfValue 4 x ++ rest)) 8 8).toNat = 0x20 + pt.toNat := by
    rw [field_encoded rest (by decide), toNat_field_eq (n := 0x20 + pt.toNat) (by omega)]
  rw [decode_of_opens (q := q) (op := 0x20 + pt.toNat) rest (by decide) (by rw [Opens, encHead]; omega),
    decodePredicated_cmpi (by omega) (by omega)]
  simp (disch := decide) only [field_encoded]
  rw [field_eq_of_toNat (x := pt) (by omega), field_eq_of_toNat (x := ra) (by omega),
    field_eq_of_toNat (x := imm) (by omega)]

/-- BR holds the high nibble of its displacement in the opcode byte (R148). -/
theorem decode_encode_br {disp : BitVec 12} : decode (encode (.br q disp) ++ rest) = .ok (.br q disp) := by
  have hv : encodeValue (.br q disp) = predByte q + 2 ^ 8 * (0x30 + disp.toNat / 2 ^ 8) +
    2 ^ 16 * (disp.toNat % 2 ^ 8) := rfl
  have hlen : encodeLength (.br q disp) = 3 := rfl
  have hq := predByte_lt q
  rw [encode, hlen]
  generalize encodeValue (.br q disp) = x at hv ⊢
  have hop : (field (valueOfBytes (bytesOfValue 3 x ++ rest)) 8 8).toNat = 0x30 + disp.toNat / 2 ^ 8 := by
    rw [field_encoded rest (by decide), toNat_field_eq (n := 0x30 + disp.toNat / 2 ^ 8) (by omega)]
  have hlow : x / 2 ^ 16 = disp.toNat % 2 ^ 8 := by omega
  rw [decode_of_opens (q := q) (op := 0x30 + disp.toNat / 2 ^ 8) rest (by decide) (by rw [Opens, encHead]; omega),
    decodePredicated_br (by omega) (by omega)]
  simp (disch := decide) only [field_encoded]
  rw [field_eq_of_toNat (x := disp.extractLsb' 8 4) ?_, field_eq_of_toNat (x := disp.extractLsb' 0 8) ?_,
    BitVec.extractLsb'_append_extractLsb'_eq_extractLsb' (by rfl), BitVec.extractLsb'_eq_self]
  · rw [hlow, BitVec.extractLsb'_toNat, Nat.shiftRight_zero, Nat.mod_mod]
  · rw [BitVec.extractLsb'_toNat, Nat.shiftRight_eq_div_pow]; omega

end

/-! ### Instructions of one byte, and the IMM family (R133, R139) -/

theorem decode_single {v : Nat} {i : Instr} (rest : List Byte)
    (h : ∀ x, field x 0 8 = field v 0 8 → decodeValue x = .ok i) :
    decode (bytesOfValue 1 v ++ rest) = .ok i :=
  h _ (field_encoded rest (by decide))

/-- The constant of an IMM of `m` bytes fills the bytes after the first. -/
theorem decode_imm_value {m w : Nat} {c : BitVec w} (rest : List Byte) (sub : BitVec w → Decoded)
    (hm : 1 ≤ m ∧ m ≤ 7) (hw : w = 8 * m) (hsub : ∀ v, decodeImmediate m v = sub (field v 8 w)) :
    decode (bytesOfValue (m + 1) (16 * (m + 1) + 2 ^ 8 * c.toNat) ++ rest) = sub c := by
  have hfirst : field (16 * (m + 1) + 2 ^ 8 * c.toNat) 0 8 = BitVec.ofNat 8 (16 * (m + 1)) := by
    apply field_eq_of_toNat
    rw [BitVec.toNat_ofNat]
    omega
  have himm : firstByte (BitVec.ofNat 8 (16 * (m + 1))) = .imm m := by
    obtain ⟨h1, h7⟩ := hm
    clear hfirst hsub hw
    interval_cases m <;> rfl
  have hc : (16 * (m + 1) + 2 ^ 8 * c.toNat) / 2 ^ 8 = c.toNat := by omega
  rw [decode, decodeValue, field_encoded rest (by omega), hfirst, himm]
  show decodeImmediate m _ = _
  rw [hsub, field_encoded rest (by omega), field_eq_of_toNat (x := c) (by rw [hc, Nat.mod_eq_of_lt c.isLt])]

/-! ### Every instruction -/

/-- Settles O1: one case for each format, closed by that format's lemma; a sub-table's row and a single instruction are
read off the opcode map by evaluation. -/
theorem decodeEncodeAgree : Obligations.DecodeEncodeAgree := by
  intro i rest
  cases i with
  | brk | nop1 | rts1 => exact decode_single rest fun x hx => by rw [decodeValue, hx]; rfl
  | imm16 | imm24 | imm32 | imm40 | imm48 | imm56 | imm64 =>
    apply decode_imm_value rest
    case hm => decide
    case hw => rfl
    case hsub => exact fun _ => rfl
  | tst q pt ra => exact decode_tst_value rest (o2 := 0) (by decide)
  | ftst q pt => exact decode_tst_value rest (o2 := 1) (ra := 0) (by decide)
  | fstst q pt => exact decode_tst_value rest (o2 := 2) (ra := 0) (by decide)
  | cmp q pt ra rb => exact decode_cmp_value rest (opc := 0) (by decide)
  | fscmp q pt => exact decode_cmp_value rest (opc := 2) (ra := 0) (rb := 0) (by decide)
  | cmpi => exact decode_encode_cmpi rest
  | br => exact decode_encode_br rest
  | biti => exact decode_encode_biti rest
  | stix => exact decode_encode_stix rest
  | inc => exact decode_encode_inc rest
  | lwShort => exact decode_encode_lwShort rest
  | loop => exact decode_encode_loop rest
  | stp => exact decode_encode_stp rest
  | add q | sub q | mul q | div q | addu q | subu q | mulu q | divu q | addu2 q | addu4 q | addu8 q | addu16 q | min q
  | max q => exact decode_encRR rest (decodeArith q) (by decide) (by decide) fun _ => rfl
  | pand q | por q | peor q | pnand q | pnor q | penor q | pandc q | porc q =>
    exact decode_encRR rest (decodePredLogic q) (by decide) (by decide) fun _ => rfl
  | and q | or q | eor q | nand q | nor q | enor q | andc q | orc q =>
    exact decode_encRR rest (decodeLogic q) (by decide) (by decide) fun _ => rfl
  | shl q | shr q | shlu q | shru q | rol q | ror q | shli q | shri q | shlui q | shrui q | roli q | rori q =>
    exact decode_encRR rest (decodeShift q) (by decide) (by decide) fun _ => rfl
  | bcdadd q | bcdsub q | bcdmul q => exact decode_encRR rest (decodeBcd q) (by decide) (by decide) fun _ => rfl
  | cpuid q | redor q | redand q | par q =>
    exact decode_encR rest (decodeIdent q) (by decide) (by decide) fun _ => rfl
  | mov q | neg q | not q | abs q | sgn q | cntlz q | cntlo q | cntpop q | sxb q | sxc q | sxh q | com q | zxb q | zxc q
  | zxh q => exact decode_encR rest (decodeMove q) (by decide) (by decide) fun _ => rfl
  | mfspr q => exact decode_encR rest (fun _ rt spr => .ok (.mfspr q rt spr)) (by decide) (by decide) fun _ => rfl
  | mtspr q => exact decode_encR rest (fun _ spr ra => .ok (.mtspr q spr ra)) (by decide) (by decide) fun _ => rfl
  | movs q => exact decode_encR rest (fun _ sprt spr => .ok (.movs q sprt spr)) (by decide) (by decide) fun _ => rfl
  | addi | subi | muli | divi | addui | subui | mului | divui | andi | ori | eori | addui2 | addui4 | addui8
  | addui16 =>
    apply decode_encRI rest
    case hop => decide
    case hsub => exact fun _ => rfl
  | adduiShort | ldi | ldis =>
    apply decode_encRI10 rest
    case hop => decide
    case hsub => exact fun _ => rfl
  | mlo | mux =>
    apply decode_encRRR4 rest
    case hop => decide
    case hsub => exact fun _ => rfl
  | lb | lbu | lc | lcu | lh | lhu | lw | lvwar | swcr | lws | lcl | sb | sc | sh | sw | sti | sws | lvb | lvc | lvh
  | lvw =>
    apply decode_encMem rest
    case hop => decide
    case hsub => exact fun _ => rfl
  | lbx | lbux | lcx | lcux | lhx | lhux | lwx | sbx | scx | shx | swx =>
    apply decode_encMemX rest
    case hop => decide
    case hsub => exact fun _ => rfl
  | jci q | jhi q | jwi q => exact decode_encJI rest (decodeJumpIndirect q) (by decide) fun _ => rfl
  | jcix q | jhix q | jwix q => exact decode_encJIX rest (decodeJumpIndexed q) (by decide) fun _ => rfl
  | cas =>
    apply decode_cas_value rest
    exact fun _ => rfl
  | stset q =>
    exact decode_encStr rest (fun sg sz dir ra rb _ => .ok (.stset q sg sz dir ra rb)) (by decide) fun _ => rfl
  | stmov | stcmp | stfnd =>
    apply decode_encStr rest
    case hop => decide
    case hsub => exact fun _ => rfl
  | bfins q | bfset q | bfclr q | bfchg q | bfextu q | bfext q | bfinsi q =>
    exact decode_encBF rest (decodeBitField q) (by decide) fun _ => rfl
  | tlbnop q | tlbpb q | tlbrd q | tlbwr q | tlbwi q | tlben q | tlbdis q | tlbinv q =>
    exact decode_encTlb rest (tn := 0) (r := 0) (decodeTlb q) (by decide) fun _ => rfl
  | tlbrdreg q | tlbwrreg q => exact decode_encTlb rest (decodeTlb q) (by decide) fun _ => rfl
  | cacheInvI q | cacheInvILine q | cacheInvD q | cacheInvDLine q =>
    exact decode_encCache rest (decodeCache q) (by decide) fun _ => rfl
  | jsr3 q crt cr =>
    exact decode_encNibbles rest (x := 0#0) (fun lo hi _ => .ok (.jsr3 q lo hi)) (by decide) rfl fun _ => rfl
  | rts3 q cr im4 =>
    exact decode_encNibbles rest (x := 0#0) (fun lo hi _ => .ok (.rts3 q hi lo)) (by decide) rfl fun _ => rfl
  | jsr5 | jsr6 | sys | int | rts4 =>
    apply decode_encNibbles rest
    case hop => decide
    case hn => rfl
    case hsub => exact fun _ => rfl
  | fmov q | ftoi q | itof q | fneg q | fabs q | fsign q | fman q | fnabs q | fstat q | frm q =>
    exact decode_encHead_func rest (lo := 28) (w := 4) (decodeDouble q) (by decide) (by decide) rfl (by decide)
      fun _ => rfl
  | fmovs q | ftois q | itofs q | fnegs q | fabss q | fsigns q | fmans q | fnabss q | ftx q | fcx q | fex q | fdx q =>
    exact decode_encHead_func rest (lo := 28) (w := 4) (decodeSingle q) (by decide) (by decide) rfl (by decide)
      fun _ => rfl
  | fcmp q | fadd q | fsub q | fmul q | fdiv q | fcmps q | fadds q | fsubs q | fmuls q | fdivs q =>
    exact decode_encHead_func rest (lo := 34) (w := 6) (decodeFloatRR q) (by decide) (by decide) rfl (by decide)
      fun _ => rfl
  | fmac | lfs | lfd | sfs | sfd | push | pea | pop | link | unlink | nop2 | rte | rti | sync | memsb | memdb
  | cli | sei
  | rtd | immFF =>
    apply decode_encHead rest
    case hop => decide
    case hsub => exact fun _ => rfl

/-- Settles O3: each row is the decoder evaluated on the printed bytes. -/
theorem specWordsDecode : Obligations.SpecWordsDecode :=
  ⟨rfl, rfl, rfl, rfl, rfl, rfl, rfl, rfl, rfl, rfl, rfl, rfl, rfl, rfl⟩

end Sys2Proof.Machine
end

section
/-! PROOFS for 20_memory.md section 3 and 30_encoding.md sections 1 and 2: from the bytes at the program counter to the
outcome of the step (R97, R131, R134 to R141). -/

namespace Sys2Proof.Machine

/-! ### A step at a unit that decodes -/

theorem andThen_assoc (r : Result) (f g : State → Result) :
    andThen (andThen r f) g = andThen r fun t => andThen (f t) g := by
  cases r <;> rfl

theorem afterUnit_of_not_singleSteps {s t : State} {i : Instr} (h : singleSteps s i t = false) :
    afterUnit s i t = .next (endStep t) := by
  rw [afterUnit, h]
  rfl

/-- A step at a unit that decodes runs it (30_encoding.md R134). -/
theorem step_of_decoded {s : State} {u : UnitBytes} {i : Instr} (hq : (beginStep s).Quiet)
    (hw : (beginStep s).Unwatched) (hf : fetchUnitBytes (beginStep s) = .ok u) (hd : decode u.body = .ok i) :
    step s = andThen (runDecoded exec (beginStep s) u.prefixBytes i) (afterUnit (beginStep s) i) := by
  rw [step_quiet hq, runUnit_decoded hw hf hd]

theorem runDecoded_prefixed {ex : Instr → State → Result} {s : State} {bs : List Byte} {p i : Instr}
    (hp : decode bs = .ok p) (hi : takesImmediate i = true) :
    runDecoded ex s (some bs) i = andThen (ex p s) (ex i) := by
  simp only [runDecoded, hi, hp, if_true]

/-- Settles O4: `step_of_decoded`, with the unit's prefix first if it has one. -/
theorem stepRunsDecodedInstruction : Obligations.StepRunsDecodedInstruction := by
  intro s u i hq hw hf hd
  have hstep := step_of_decoded hq hw hf hd
  refine ⟨fun hnone => ?_, fun bs p hsome hp hi => ?_, fun t ht => afterUnit_of_not_singleSteps ht⟩
  · rw [hstep, hnone]
    rfl
  · rw [hstep, hsome, runDecoded_prefixed hp hi, andThen_assoc]

/-! ### The fetch of one instruction or one prefix -/

/-- The bytes are as many as the fetch takes after their first two (30_encoding.md R131). -/
def WholeItem : List Byte → Prop
  | [] => False
  | b :: bs =>
    match firstByte b with
    | .brk | .nop | .rts => bs = []
    | .imm m => bs.length = m
    | .pred _ => ∃ op operands, bs = op :: operands ∧ lengthOfOpcode op.toNat = operands.length + 2
    | .reserved => False

/-- The encoder writes as many bytes as the fetch takes, but for the map-only names of unknown length. -/
theorem wholeItem_encode {i : Instr} (hi : mapOnly i = false) : WholeItem (encode i) := by
  have hlen := length_encode i
  have hdecode := decodeEncodeAgree i [0]
  cases henc : encode i with
  | nil =>
    rw [henc] at hdecode
    cases hdecode
    cases henc
  | cons b bs =>
    rw [henc, List.length_cons] at hlen
    rw [henc, List.cons_append] at hdecode
    obtain ⟨op, rest, hrest⟩ : ∃ op rest, bs ++ [0] = op :: rest := List.exists_cons_of_ne_nil (by simp)
    rw [hrest] at hdecode
    have htable := tableLength_of_decode hdecode hi
    cases hb : firstByte b with
    | brk | nop | rts =>
      rw [tableLength_of_firstByte_single (by simp [hb]), ← hlen, Option.some.injEq] at htable
      simp only [WholeItem, hb]
      exact List.length_eq_zero_iff.mp (by omega)
    | imm m =>
      rw [tableLength_of_firstByte_imm hb, ← hlen, Option.some.injEq] at htable
      simp only [WholeItem, hb]
      omega
    | pred q =>
      rw [tableLength_of_firstByte_pred hb, ← hlen] at htable
      cases bs with
      | nil =>
        cases hrest
        cases htable
      | cons op' operands =>
        cases hrest
        simp only [WholeItem, hb]
        exact ⟨_, _, rfl, lengthOfOpcode_of_tableLength _ op.isLt _ htable⟩
    | reserved =>
      rw [decode, decodeValue, field_valueOfBytes_first, hb] at hdecode
      exact absurd hdecode (decodeReserved_ne_ok _ _)

/-- The fetch finds a whole item where it stands among the unit's bytes. -/
theorem fetchItem_codeIs {s : State} {pre bs post : List Byte} (h : s.CodeIs (pre ++ (bs ++ post)))
    (hbs : WholeItem bs) : fetchItem s pre.length = .ok bs := by
  have hbyte : ∀ k (hk : k < bs.length), fetchByte s (pre.length + k) = .ok bs[k] := fun k hk => by
    rw [fetchByte_codeIs h (by simp; omega), List.getElem_append_right (by omega), List.getElem_append_left (by omega)]
    simp
  have hbytes : ∀ n k, k + n ≤ bs.length → fetchBytes s (pre.length + k) n = .ok ((bs.drop k).take n) :=
    fun n k hk => by
      rw [fetchBytes_codeIs h n _ (by simp; omega), List.drop_length_add_append,
        List.drop_append_of_le_length (by omega),
        List.take_append_of_le_length (by simp; omega)]
  unfold WholeItem at hbs
  cases bs with
  | nil => exact hbs.elim
  | cons b bs =>
    have hfirst : fetchByte s pre.length = .ok b := hbyte 0 (by simp)
    rw [fetchItem, hfirst]
    simp only [Check.andThen]
    cases hb : firstByte b with
    | brk | nop | rts =>
      simp only [hb] at hbs ⊢
      rw [hbs]
    | imm m =>
      simp only [hb] at hbs ⊢
      rw [hbytes m 1 (by simp; omega)]
      simp [← hbs]
    | pred q =>
      simp only [hb] at hbs ⊢
      obtain ⟨op, operands, rfl, hlen⟩ := hbs
      rw [hbyte 1 (by simp)]
      simp only [List.getElem_cons_succ, List.getElem_cons_zero, hlen]
      rw [hbytes _ 2 (by simp; omega)]
      simp
    | reserved => simp [hb] at hbs

/-! ### A unit in memory -/

theorem fetchUnitBytes_plain {s : State} {bs : List Byte} (h : s.CodeIs bs) (hbs : WholeItem bs)
    (hplain : isPrefix bs = false) : fetchUnitBytes s = .ok { prefixBytes := none, body := bs } := by
  have hitem : fetchItem s 0 = .ok bs := fetchItem_codeIs (pre := []) (post := []) (by simpa using h) hbs
  rw [fetchUnitBytes, hitem]
  simp only [Check.andThen, hplain, Bool.false_eq_true, if_false]

theorem fetchUnitBytes_prefixed {s : State} {pre bs : List Byte} (h : s.CodeIs (pre ++ bs)) (hpre : WholeItem pre)
    (hbs : WholeItem bs) (hprefix : isPrefix pre = true) :
    fetchUnitBytes s = .ok { prefixBytes := some pre, body := bs } := by
  have hfirst : fetchItem s 0 = .ok pre := fetchItem_codeIs (pre := []) (post := bs) (by simpa using h) hpre
  have hsecond : fetchItem s pre.length = .ok bs := fetchItem_codeIs (post := []) (by simpa using h) hbs
  rw [fetchUnitBytes, hfirst]
  simp only [Check.andThen, hprefix, hsecond, if_true]

theorem decode_encode (i : Instr) : decode (encode i) = .ok i := by
  simpa using decodeEncodeAgree i []

/-- Settles O5: the fetch finds the encoding whole, and its decoding is the instruction (O1). -/
theorem encodedInstructionRuns : Obligations.EncodedInstructionRuns := by
  intro s i hq hw hi hplain hcode
  exact step_of_decoded hq hw (fetchUnitBytes_plain hcode (wholeItem_encode hi) hplain) (decode_encode i)

/-- An instruction that takes a prefix is described. -/
theorem mapOnly_of_takesImmediate {i : Instr} (h : takesImmediate i = true) : mapOnly i = false := by
  cases i with
  | fmac | fmov | ftoi | itof | fneg | fabs | fsign | fman | fnabs | fstat | frm | fcmp | fadd | fsub | fmul | fdiv
  | fcmps | fadds | fsubs | fmuls | fdivs | fmovs | ftois | itofs | fnegs | fabss | fsigns | fmans | fnabss | ftx
  | fcx | fex | fdx | ftst | fstst | fscmp | lfs | lfd | sfs | sfd | push | pea | pop | link | unlink | immFF
  | sgn | redor | redand | par => cases h
  | _ => rfl

/-- Bytes that open with a prefix byte decode as an IMM. -/
theorem decodeImmediate_of_isPrefix {bs : List Byte} {p : Instr} (h : isPrefix bs = true) (hp : decode bs = .ok p) :
    ∃ m v, 1 ≤ m ∧ m ≤ 7 ∧ decodeImmediate m v = .ok p := by
  cases bs with
  | nil => cases h
  | cons b bs =>
    cases hb : firstByte b with
    | imm m =>
      obtain ⟨-, h1, h7⟩ := toNat_of_firstByte_imm hb
      rw [decode, decodeValue, field_valueOfBytes_first, hb] at hp
      exact ⟨m, _, h1, h7, hp⟩
    | brk | nop | rts | pred | reserved => simp [isPrefix, hb] at h

/-- The IMM family is described. -/
theorem mapOnly_of_isPrefix {p : Instr} (h : isPrefix (encode p) = true) : mapOnly p = false := by
  obtain ⟨m, v, h1, h7, hp⟩ := decodeImmediate_of_isPrefix h (decode_encode p)
  interval_cases m <;> cases hp <;> rfl

/-- Settles O6: the fetch finds both encodings whole, one after the other, as one unit. -/
theorem prefixedInstructionRuns : Obligations.PrefixedInstructionRuns := by
  intro s p i hq hw hprefix hi hcode
  have hf := fetchUnitBytes_prefixed hcode (wholeItem_encode (mapOnly_of_isPrefix hprefix))
    (wholeItem_encode (mapOnly_of_takesImmediate hi)) hprefix
  rw [step_of_decoded hq hw hf (decode_encode i), runDecoded_prefixed (decode_encode p) hi, andThen_assoc]

/-! ### Units that are no instruction -/

/-- A step that ends by taking an exception. -/
theorem closeStep_raiseException {s : State} {v : BitVec 8} (h : s.vectorInArea v) :
    ∃ t, TakesException s t v s.pc ∧ closeStep (raiseException v s) = .next (endStep t) := by
  obtain ⟨t, ht, hentry⟩ := raiseException_raises h
  exact ⟨t, hentry, by rw [ht, closeStep_next]⟩

theorem step_of_rejected {s : State} {u : UnitBytes} {e : DecodeError} (hq : (beginStep s).Quiet)
    (hw : (beginStep s).Unwatched) (hf : fetchUnitBytes (beginStep s) = .ok u) (hd : decode u.body = .error e) :
    step s = closeStep (rejectUnit (beginStep s) e) := by
  rw [step_quiet hq, runUnit_rejected hw hf hd]

/-- The unassigned opcodes and functions trap through vector 250 (60_exceptions.md R587). -/
theorem rejectUnit_illegal {s : State} {e : DecodeError} (h : e = .undefinedOpcode ∨ e = .undefinedFunction) :
    rejectUnit s e = raiseException 250 s := by
  obtain rfl | rfl := h <;> rfl

/-! ### Reserved predicate bytes (30_encoding.md R136; log 28) -/

/-- Why a unit does not decode. -/
def decodeErrorOf : Decoded → Option DecodeError
  | .ok _ => none
  | .error e => some e

theorem eq_error_of_decodeErrorOf {d : Decoded} {e : DecodeError} (h : decodeErrorOf d = some e) : d = .error e := by
  cases d <;> cases h
  rfl

theorem firstByte_reserved : ∀ b : Byte,
    b.toNat % 16 = 12 ∨ b.toNat % 16 = 14 ∨ b.toNat % 16 = 15 ∨ (b.toNat % 16 = 0 ∧ 0xA0 ≤ b.toNat) ∨
      (b.toNat % 16 = 1 ∧ 0x21 ≤ b.toNat) → firstByte b = .reserved := by
  decide +kernel

/-- Whether an opcode or a function code is assigned does not depend on the predicate. The first cases are the
sub-tables of `decodeOpcode`; every other row is one instruction. -/
theorem decodeErrorOf_decodeOpcode (q q' : Pred) (op v : Nat) :
    decodeErrorOf (decodeOpcode q op v) = decodeErrorOf (decodeOpcode q' op v) := by
  unfold decodeOpcode
  split
  case h_1 | h_2 | h_3 | h_14 | h_19 | h_27 | h_28 | h_29 | h_41 | h_58 | h_66 | h_69 | h_82 | h_95 | h_100 =>
    simp only [decodeArith, decodeIdent, decodePredLogic, decodeLogic, decodeShift, decodeDouble, decodeFloatRR,
      decodeSingle, decodeJumpIndirect, decodeCache, decodeMove, decodeBitField, decodeJumpIndexed, decodeTlb,
        decodeBcd]
    split <;> rfl
  all_goals rfl

theorem decodeErrorOf_decodePredicated (q q' : Pred) (v : Nat) :
    decodeErrorOf (decodePredicated q v) = decodeErrorOf (decodePredicated q' v) := by
  simp only [decodePredicated]
  split_ifs
  · unfold decodeTst
    split <;> rfl
  · unfold decodeCmp
    split <;> rfl
  · rfl
  · rfl
  · exact decodeErrorOf_decodeOpcode q q' _ v

theorem decodeOpcode_congr (q : Pred) (op : Nat) {v v' : Nat}
    (h : ∀ lo w, 8 ≤ lo → field v lo w = field v' lo w) : decodeOpcode q op v = decodeOpcode q op v' := by
  unfold decodeOpcode
  split
  all_goals simp (disch := decide) only [h]

/-- Every field of an instruction after its predicate lies above the first byte. -/
theorem decodePredicated_congr (q : Pred) {v v' : Nat} (h : ∀ lo w, 8 ≤ lo → field v lo w = field v' lo w) :
    decodePredicated q v = decodePredicated q v' := by
  simp (disch := decide) only [decodePredicated, decodeOpcode_congr q _ h, h]

theorem field_cons_congr (b b' : Byte) (rest : List Byte) {lo w : Nat} (h : 8 ≤ lo) :
    field (valueOfBytes (b :: rest)) lo w = field (valueOfBytes (b' :: rest)) lo w := by
  have hdrop : ∀ c : Byte, valueOfBytes (c :: rest) / 2 ^ lo = valueOfBytes rest / 2 ^ (lo - 8) := fun c => by
    have hc := c.isLt
    rw [← Nat.add_sub_cancel' h, Nat.pow_add, ← Nat.div_div_eq_div_mul, Nat.add_sub_cancel_left, valueOfBytes]
    congr 1
    omega
  rw [field, field, hdrop b, hdrop b']

/-- A unit after a reserved byte answers the error that it has after `always`. -/
theorem decodeErrorOf_reserved (b : Byte) (rest : List Byte) :
    decodeErrorOf (decodePredicated .never (valueOfBytes (b :: rest))) = decodeErrorOf (decode (0x01 :: rest)) := by
  have halways : decode (0x01 :: rest) = decodePredicated .always (valueOfBytes (0x01 :: rest)) :=
    decode_of_firstByte_pred (by decide) rest
  rw [halways, decodePredicated_congr .never fun lo w h => field_cons_congr b 0x01 rest h,
    decodeErrorOf_decodePredicated .never .always]

theorem decode_of_reserved {b : Byte} (hb : firstByte b = .reserved) (rest : List Byte) :
    decode (b :: rest) = decodeReserved (valueOfBytes (b :: rest)) := by
  rw [decode, decodeValue, field_valueOfBytes_first, hb]

/-- An unassigned opcode or function is found whatever the predicate byte (60_exceptions.md R605; log 28). -/
theorem decode_reserved_illegal {b : Byte} (hb : firstByte b = .reserved) {rest : List Byte} {e : DecodeError}
    (he : e = .undefinedOpcode ∨ e = .undefinedFunction) (h : decode (0x01 :: rest) = .error e) :
    decode (b :: rest) = .error e := by
  have herror : decodePredicated .never (valueOfBytes (b :: rest)) = .error e :=
    eq_error_of_decodeErrorOf (by rw [decodeErrorOf_reserved, h]; rfl)
  rw [decode_of_reserved hb, decodeReserved, herror]
  obtain rfl | rfl := he <;> rfl

theorem decode_reserved_assigned {b : Byte} (hb : firstByte b = .reserved) {rest : List Byte}
    (hop : decode (0x01 :: rest) ≠ .error .undefinedOpcode)
    (hfunc : decode (0x01 :: rest) ≠ .error .undefinedFunction) :
    decode (b :: rest) = .error .reservedPredicate := by
  have herror := decodeErrorOf_reserved b rest
  rw [decode_of_reserved hb, decodeReserved]
  split
  · rename_i h
    rw [h] at herror
    exact absurd (eq_error_of_decodeErrorOf herror.symm) hop
  · rename_i h
    rw [h] at herror
    exact absurd (eq_error_of_decodeErrorOf herror.symm) hfunc
  · rfl

/-- Settles O7: what is rejected ends the step as `rejectUnit` says, and a reserved byte answers as its unit does after
`always`. -/
theorem rejectedUnits : Obligations.RejectedUnits := by
  refine ⟨fun s u hq hw hf => ⟨fun hd harea => ?illegal, fun hd => ?reserved, fun bs i hpre hd hi => ?misplaced⟩,
    fun b rest hb => ?bytes⟩
  case illegal =>
    obtain ⟨e, he, hd⟩ : ∃ e, (e = .undefinedOpcode ∨ e = .undefinedFunction) ∧ decode u.body = .error e :=
      hd.elim (fun h => ⟨_, .inl rfl, h⟩) fun h => ⟨_, .inr rfl, h⟩
    rw [step_of_rejected hq hw hf hd, rejectUnit_illegal he]
    exact closeStep_raiseException harea
  case reserved =>
    rw [step_of_rejected hq hw hf hd]
    rfl
  case misplaced =>
    rw [step_of_decoded hq hw hf hd, hpre]
    simp only [runDecoded, hi, Bool.false_eq_true, if_false, andThen_refused]
  case bytes =>
    have hreserved := firstByte_reserved b hb
    refine ⟨fun h => ?_, fun hop hfunc => decode_reserved_assigned hreserved hop hfunc⟩
    obtain h | h := h
    · rw [decode_reserved_illegal hreserved (.inl rfl) h, h]
    · rw [decode_reserved_illegal hreserved (.inr rfl) h, h]

/-! ### Faults of the first byte -/

/-- What the check of the first byte raises, the fetch of the unit raises. -/
theorem fetchUnitBytes_raise {s u : State} {v : BitVec 8} (h : fetchAddress s 0 = .raise v u) :
    fetchUnitBytes s = .raise v u := by
  rw [fetchUnitBytes, fetchItem, fetchByte_eq_raise h]
  rfl

@[simp] theorem seq_zero (a : Word) : seq a 0 = a := by
  simp only [seq, addLow, BitVec.setWidth_zero, BitVec.add_zero]
  rw [BitVec.setWidth_eq_extractLsb' (by decide), BitVec.extractLsb'_append_extractLsb'_eq_extractLsb' (by rfl),
    BitVec.extractLsb'_eq_self]

theorem fetchAddress_limit {s : State} (hseg : nonSegmented s.pc = false)
    (hlimit : limitFault (s.segmentLimit 8 7) s.pc = true) : fetchAddress s 0 = .raise vecLimit s := by
  simp only [fetchAddress, seq_zero, Nat.add_zero, hseg, hlimit, Bool.not_false, Bool.and_self, if_true]

theorem fetchAddress_busError {s : State} {p : Phys}
    (hlimit : nonSegmented s.pc = true ∨ limitFault (s.segmentLimit 8 7) s.pc = false)
    (hpage : inLastPage (s.fetchVa 8 s.pc) = false) (hhit : s.translate (s.fetchVa 8 s.pc) = .hit p)
    (hbus : s.fetchBusError p.pa.toNat = true) : fetchAddress s 0 = .raise vecFetchBus s := by
  have hpasses : (!nonSegmented s.pc && limitFault (s.segmentLimit 8 7) s.pc) = false := by
    rwa [Bool.and_eq_false_iff, Bool.not_eq_false']
  simp only [fetchAddress, seq_zero, Nat.add_zero, hpasses, hpage, hhit, hbus, Bool.false_eq_true, if_false, if_true]

/-- The instruction match of a unit that can be fetched, or whose only fault is the bus error (20_memory.md R97). -/
theorem debugFetchCheck_watched {α : Type} {s : State} {c : Check α}
    (hhits : debugHits (debugFetchMatch s.dbg (s.fetchVa 8 s.pc)) ≠ 0)
    (hc : (∃ u, c = .ok u) ∨ ∃ t, c = .raise vecFetchBus t) :
    debugFetchCheck s c =
      .raise vecDebug (s.setDebugStatus (debugHits (debugFetchMatch s.dbg (s.fetchVa 8 s.pc)))) := by
  obtain ⟨u, rfl⟩ | ⟨t, rfl⟩ := hc
  · exact if_neg hhits
  · exact if_neg hhits

/-- The limit fault and the TLB miss come before the instruction match. -/
theorem debugFetchCheck_raise {α : Type} {s t : State} {v : BitVec 8} (hv : v ≠ vecFetchBus) :
    debugFetchCheck s (.raise v t : Check α) = .raise v t := by
  simp only [debugFetchCheck, hv, if_false, ite_self]

/-- A step whose fetch raises. -/
theorem step_of_fetch_raise {s u : State} {v : BitVec 8} (hq : (beginStep s).Quiet)
    (hf : debugFetchCheck (beginStep s) (fetchUnitBytes (beginStep s)) = .raise v u) (harea : u.vectorInArea v) :
    ∃ t, TakesException u t v u.pc ∧ step s = .next (endStep t) := by
  rw [step_quiet hq, runUnit, hf]
  exact closeStep_raiseException harea

/-- Settles O8: the check of the first byte raises, the instruction match lets it pass or takes its place, and the step
takes the exception. -/
theorem fetchFaultsTaken : Obligations.FetchFaultsTaken := by
  intro s hq s0 va hits
  refine ⟨fun hseg hlimit harea => ?limit, fun hlimit hpage =>
    ⟨fun hmiss harea => ?miss, fun hhits harea hc => ?debug, fun hhits harea p hhit hbus => ?bus⟩⟩
  case limit =>
    have hf := fetchUnitBytes_raise (fetchAddress_limit hseg hlimit)
    exact step_of_fetch_raise hq (by rw [hf, debugFetchCheck_raise (by decide)]) harea
  case miss =>
    have hf := fetchUnitBytes_raise (fetchAddress_eq_raise_of_miss (s := s0) (k := 0) (by rwa [seq_zero])
      (by rwa [seq_zero]) (by rwa [seq_zero]))
    rw [seq_zero, recordFetchMiss_eq] at hf
    rw [recordFetchMiss_eq]
    exact step_of_fetch_raise hq (by rw [hf, debugFetchCheck_raise (by decide)]) harea
  case debug =>
    refine step_of_fetch_raise hq (debugFetchCheck_watched hhits (hc.imp id ?_)) harea
    rintro ⟨p, hhit, hbus⟩
    exact ⟨s0, fetchUnitBytes_raise (fetchAddress_busError hlimit hpage hhit hbus)⟩
  case bus =>
    have hf := fetchUnitBytes_raise (fetchAddress_busError hlimit hpage hhit hbus)
    exact step_of_fetch_raise hq (by rw [hf, debugFetchCheck_unwatched hhits]) harea

end Sys2Proof.Machine
end

section
/-! PROOFS for 10_state.md sections 1, 2, 5 and 9 and 60_exceptions.md section 4: what an instruction leaves as it was,
and what every step keeps (R21, R27, R29, R39, R81, R220, R583). -/

namespace Sys2Proof.Machine

/-! ### What an outcome leaves as it was -/

/-- Which parts of the state an instruction that does not raise may write: memory, the predicate registers, SR, the mode
(StatusEXL and StatusHWI), the mode so that kernel mode ends, and the clock control. -/
structure MayWrite where
  mem : Bool := false
  preds : Bool := false
  sr : Bool := false
  mode : Bool := false
  leaves : Bool := false
  clk : Bool := false

/-- `t` is as `s` in every part that is not marked; the hard-wired slots and the canonical
form of memory always stay. -/
structure Keeps (w : MayWrite) (s t : State) : Prop where
  mem : w.mem = false → t.mem = s.mem
  memWf : s.mem.wf = true → t.mem.wf = true
  preds : w.preds = false → t.preds = s.preds
  sr : w.sr = false → t.sr = s.sr
  exl : w.mode = false → t.exl = s.exl
  hwi : w.mode = false → t.hwi = s.hwi
  kernel : w.leaves = false → s.kernel = true → t.kernel = true
  clk : w.clk = false → t.clk = s.clk
  r0 : t.regs[0] = s.regs[0]
  c0 : t.code[0] = s.code[0]
  c15 : t.code[15] = s.code[15]

theorem kernel_congr {s t : State} (hexl : t.exl = s.exl) (hhwi : t.hwi = s.hwi) : t.kernel = s.kernel := by
  rw [State.kernel, State.kernel, hexl, hhwi]

/-- Nothing that `Keeps` speaks of moved, but for what the two functions are given. -/
theorem Keeps.of_same {w : MayWrite} {s t : State} (mem : t.mem = s.mem := by rfl) (preds : t.preds = s.preds := by rfl)
    (sr : t.sr = s.sr := by rfl) (exl : t.exl = s.exl := by rfl) (hwi : t.hwi = s.hwi := by rfl)
    (clk : t.clk = s.clk := by rfl) (regs : t.regs = s.regs := by rfl) (code : t.code = s.code := by rfl) :
    Keeps w s t where
  mem _ := mem
  memWf h := by rwa [mem]
  preds _ := preds
  sr _ := sr
  exl _ := exl
  hwi _ := hwi
  kernel _ h := by rwa [kernel_congr exl hwi]
  clk _ := clk
  r0 := by rw [regs]
  c0 := by rw [code]
  c15 := by rw [code]

theorem Keeps.trans {w : MayWrite} {s t u : State} (h : Keeps w s t) (k : Keeps w t u) : Keeps w s u where
  mem hw := (k.mem hw).trans (h.mem hw)
  memWf hw := k.memWf (h.memWf hw)
  preds hw := (k.preds hw).trans (h.preds hw)
  sr hw := (k.sr hw).trans (h.sr hw)
  exl hw := (k.exl hw).trans (h.exl hw)
  hwi hw := (k.hwi hw).trans (h.hwi hw)
  kernel hw hs := k.kernel hw (h.kernel hw hs)
  clk hw := (k.clk hw).trans (h.clk hw)
  r0 := k.r0.trans h.r0
  c0 := k.c0.trans h.c0
  c15 := k.c15.trans h.c15

section
variable {w : MayWrite} {s : State}

theorem Keeps.setPc (t : Word) : Keeps w s (s.setPc t) := .of_same

theorem Keeps.setReg (r : Reg) (v : Word) : Keeps w s (s.setReg r v) := by
  unfold State.setReg
  split
  · exact .of_same
  · have hr : r.toNat ≠ 0 := fun h => ‹¬r = 0› (BitVec.eq_of_toNat_eq h)
    exact
      { mem _ := rfl, memWf := id, preds _ := rfl, sr _ := rfl, exl _ := rfl, hwi _ := rfl, kernel _ := id, clk _ := rfl
        r0 := Vector.getElem_set_ne r.isLt (by decide) hr
        c0 := rfl
        c15 := rfl }

theorem Keeps.setCodeReg (c : CodeReg) (v : Word) : Keeps w s (s.setCodeReg c v) := by
  unfold State.setCodeReg
  split
  · exact .of_same
  · rename_i hc
    have h0 : c.toNat ≠ 0 := fun h => hc (.inl (BitVec.eq_of_toNat_eq h))
    have h15 : c.toNat ≠ 15 := fun h => hc (.inr (BitVec.eq_of_toNat_eq h))
    exact
      { mem _ := rfl, memWf := id, preds _ := rfl, sr _ := rfl, exl _ := rfl, hwi _ := rfl, kernel _ := id, clk _ := rfl
        r0 := rfl
        c0 := Vector.getElem_set_ne c.isLt (by decide) h0
        c15 := Vector.getElem_set_ne c.isLt (by decide) h15 }

theorem Keeps.withPreds (hw : w.preds = true) (ps : Vector (BitVec 4) 16) : Keeps w s { s with preds := ps } :=
  { mem _ := rfl, memWf := id, sr _ := rfl, exl _ := rfl, hwi _ := rfl, kernel _ := id, clk _ := rfl, r0 := rfl
    c0 := rfl, c15 := rfl
    preds hp := absurd (hw.symm.trans hp) (by decide) }

theorem Keeps.setPred (hw : w.preds = true) (p : PredReg) (v : BitVec 4) : Keeps w s (s.setPred p v) := .withPreds hw _

theorem Keeps.storeValue (hw : w.mem = true) (p : Phys) (n : Nat) (v : Word) : Keeps w s (s.storeValue p n v) where
  mem h := absurd (hw.symm.trans h) (by decide)
  memWf := s.storeValue_wf p n v
  preds _ := by simp
  sr _ := by simp
  exl _ := by simp
  hwi _ := by simp
  kernel _ := by rw [kernel_congr (t := s.storeValue p n v) (s := s) (by simp) (by simp)]; exact id
  clk _ := by simp
  r0 := by simp
  c0 := by simp
  c15 := by simp

end

/-! ### Exceptions -/

/-- `t` is `s` after a synchronous exception: only the level and what `Keeps` does not speak of moved, and the mode is
kernel (60_exceptions.md R568). -/
structure Raised (s t : State) : Prop where
  keeps : Keeps { mode := true } s t
  kernel : t.kernel = true
  progress : t.progress = .raised

theorem levelUp_ne_zero (n : BitVec 8) : levelUp n ≠ 0 := fun h => by
  have hup := levelUp_toNat n
  rw [h] at hup
  change 0 = min _ _ at hup
  omega

/-- The fields that an entry writes beside the saved address. -/
theorem Raised.entry (s : State) (level : BitVec 8) (cause target : Word) (h : level ≠ 0) :
    Raised s { s with exl := level, exc := cause, pc := target, progress := .raised } :=
  have hkernel : State.kernel { s with exl := level, exc := cause, pc := target, progress := .raised } = true := by
    rw [State.kernel, bne_iff_ne.mpr h, Bool.true_or]
  { keeps :=
      { mem _ := rfl, memWf := id, preds _ := rfl, sr _ := rfl, exl := nofun, hwi := nofun, kernel _ _ := hkernel
        clk _ := rfl, r0 := rfl, c0 := rfl, c15 := rfl }
    kernel := hkernel
    progress := rfl }

/-- An exception raised from a state that keeps what `s` has. -/
theorem Raised.of_keeps {s u t : State} (h : Keeps { mode := true } s u) (k : Raised u t) : Raised s t :=
  ⟨h.trans k.keeps, k.kernel, k.progress⟩

theorem raised_of_raiseException {v : BitVec 8} {s t : State} (h : raiseException v s = .next t) : Raised s t := by
  obtain ⟨-, rfl⟩ := raiseException_next h
  exact .of_keeps (.setCodeReg (linkOf v) s.pc) (.entry _ _ _ _ (levelUp_ne_zero _))

/-! ### Outcomes -/

/-- A next state is a frame of `s`, or the entry of an exception. -/
def Ends (w : MayWrite) (s : State) (r : Result) : Prop := ∀ t, r = .next t → Keeps w s t ∨ Raised s t

section
variable {w : MayWrite} {s : State}

theorem Ends.next {t : State} (h : Keeps w s t) : Ends w s (.next t) := fun _ ht => by cases ht; exact .inl h

theorem Ends.refused (x : Refusal) : Ends w s (.refused x) := fun _ ht => by cases ht

theorem Ends.raise (v : BitVec 8) : Ends w s (raiseException v s) := fun _ ht => .inr (raised_of_raiseException ht)

theorem Ends.guarded {q : Pred} {len : Nat} {rs : List Reg} {k : Word → Result} (h : ∀ npc, Ends w s (k npc)) :
    Ends w s (guarded q len rs s k) := by
  intro t ht
  obtain ⟨-, rfl⟩ | ⟨-, hk⟩ := guarded_next ht
  · exact .inl (.setPc _)
  · exact h _ t hk

theorem Ends.privileged {r : Result} (h : Ends w s r) : Ends w s (privileged s r) := by
  unfold Machine.privileged
  split
  · exact h
  · exact .raise _

theorem Ends.dataCheck {k : AccessKind} {slot : Nat} {sg : SegReg} {off : Word} {n : Nat} {f : Phys → Result}
    (h : ∀ p, Ends w s (f p)) : Ends w s ((dataCheck s k slot sg off n).run f) := by
  intro t ht
  obtain ⟨p, -, hp⟩ | ⟨v, u, hc, hu⟩ := Check.run_next ht
  · exact h p t hp
  · refine .inr (.of_keeps ?_ (raised_of_raiseException hu))
    obtain rfl | ⟨va, rfl⟩ | ⟨hits, rfl⟩ := dataCheck_raise hc
    · exact .of_same
    · rw [recordDataMiss_eq]; exact .of_same
    · exact .of_same

theorem Ends.memRead {slot : Nat} {sg : SegReg} {off : Word} {n : Nat} {f : Word → Result} (h : ∀ v, Ends w s (f v)) :
    Ends w s (memRead s slot sg off n f) :=
  .dataCheck fun _ => h _

/-- After a store what follows is a frame of the state that the store left. -/
theorem Ends.memWrite {slot : Nat} {sg : SegReg} {off : Word} {n : Nat} {v : Word} {f : State → Result}
    (h : ∀ p, Ends w s (f (s.storeValue p n v))) : Ends w s (memWrite s slot sg off n v f) :=
  .dataCheck fun p => h p

theorem Ends.finishReg (rt : Reg) (v npc : Word) {t : State} (h : Keeps w s t) : Ends w s (finishReg rt v npc t) :=
  .next (h.trans ((Keeps.setReg rt v).trans (.setPc npc)))

/-! ### The shapes of instructions -/

theorem Ends.writeReg {q : Pred} {len : Nat} {named : List Reg} {rt : Reg} {v : Word} :
    Ends w s (writeReg q len named rt v s) :=
  .guarded fun _ => .finishReg _ _ _ .of_same

theorem Ends.writePred (hw : w.preds = true) {q : Pred} {len : Nat} {named : List Reg} {pt : PredReg} {v : BitVec 4} :
    Ends w s (writePred q len named pt v s) :=
  .guarded fun npc => .next ((Keeps.setPred hw _ _).trans (.setPc npc))

theorem Ends.writePredBit (hw : w.preds = true) {q : Pred} {bt : PredBit} {v : Bool} :
    Ends w s (writePredBit q bt v s) :=
  .guarded fun npc => .next ((Keeps.setPred hw _ _).trans (.setPc npc))

theorem Ends.writeExact {q : Pred} {len : Nat} {named : List Reg} {rt : Reg} {r : Int} :
    Ends w s (writeExact q len named rt r s) := by
  refine .guarded fun npc => ?_
  split
  · exact .finishReg _ _ _ .of_same
  · exact .raise _

theorem Ends.writeQuotient {q : Pred} {len : Nat} {named : List Reg} {rt : Reg} {a b : Word} :
    Ends w s (writeQuotient q len named rt a b s) := by
  refine .guarded fun npc => ?_
  split
  · exact .raise _
  · split
    · exact .raise _
    · exact .finishReg _ _ _ .of_same

theorem Ends.writeField {q : Pred} {named : List Reg} {rt : Reg} {mb me : BitVec 6} {v : Word} :
    Ends w s (writeField q named rt mb me v s) := by
  refine .guarded fun npc => ?_
  split
  · exact .finishReg _ _ _ .of_same
  · exact .refused _

theorem Ends.loadReg {q : Pred} {len : Nat} {named : List Reg} {sg : SegReg} {off : Word} {n : Nat}
    {extend : Word → Word} {rt : Reg} : Ends w s (loadReg q len named sg off n extend rt s) := by
  refine .guarded fun npc => ?_
  split
  · exact .next (.setPc npc)
  · exact .memRead fun v => .finishReg _ _ _ .of_same

theorem Ends.storeWord (hw : w.mem = true) {q : Pred} {len : Nat} {named : List Reg} {sg : SegReg} {off : Word}
    {n : Nat} {v : Word} : Ends w s (storeWord q len named sg off n v s) :=
  .guarded fun npc => .memWrite fun _ => .next ((Keeps.storeValue hw _ _ _).trans (.setPc npc))

theorem Ends.jumpThrough {q : Pred} {named : List Reg} {sg : SegReg} {ct : CodeReg} {off : Word} {n : Nat}
    {target : Word → Word → Word} : Ends w s (jumpThrough q named sg ct off n target s) :=
  .guarded fun npc => .memRead fun _ => .next ((Keeps.setCodeReg ct npc).trans (.setPc _))

theorem Ends.jumpAndLink {crt cr : CodeReg} {off npc : Word} : Ends w s (jumpAndLink crt cr off npc s) :=
  .next ((Keeps.setCodeReg crt npc).trans (.setPc _))

theorem Ends.setPrefix {m : Nat} {ext : BitVec 56} : Ends w s (setPrefix m ext s) := by
  unfold Machine.setPrefix
  split
  · exact .next .of_same
  · exact .refused _

theorem Ends.tlbCommand {q : Pred} {k : Word → Result} (h : ∀ npc, Ends w s (k npc)) : Ends w s (tlbCommand q s k) :=
  .guarded fun npc => .privileged (h npc)

/-! ### String elements -/

theorem Ends.stringStep {q : Pred} {named : List Reg} {element : Word → Result} (h : ∀ npc, Ends w s (element npc)) :
    Ends w s (stringStep q named s element) := by
  refine .guarded fun npc => ?_
  split
  · exact .next (.setPc npc)
  · exact h npc

theorem Ends.endElement {t : State} (h : Keeps w s t) (npc : Word) : Ends w s (endElement t npc) := by
  unfold Machine.endElement
  split
  · exact .next (h.trans (.setPc npc))
  · exact .next (h.trans .of_same)

theorem Keeps.advance (index : Reg) (sz : Size) (dir : Direction) : Keeps w s (s.advance index sz dir) :=
  (Keeps.setReg index (s.reg index + elementStep sz dir)).trans .of_same

/-! ### Special registers -/

theorem breakoutRead_ne_raise (s : State) (v : BitVec 8) (u : State) : s.breakoutRead ≠ .raise v u := by
  unfold State.breakoutRead
  split_ifs <;> simp

theorem systemRead_ne_raise (s : State) (n : SprNum) (v : BitVec 8) (u : State) : s.systemRead n ≠ .raise v u := by
  unfold State.systemRead
  split
  case h_9 => exact breakoutRead_ne_raise s v u
  all_goals simp

theorem sprRead_ne_raise (s : State) (npc : Word) (n : SprNum) (v : BitVec 8) (u : State) :
    s.sprRead npc n ≠ .raise v u := by
  unfold State.sprRead
  split_ifs
  case neg => exact systemRead_ne_raise s n v u
  all_goals simp

/-- A special register that is read raises nothing. -/
theorem Ends.sprRead {npc : Word} {n : SprNum} {f : Word → Result} (h : ∀ v, Ends w s (f v)) :
    Ends w s ((s.sprRead npc n).run f) := by
  intro t ht
  obtain ⟨v, -, hv⟩ | ⟨v, u, hc, -⟩ := Check.run_next ht
  · exact h v t hv
  · exact absurd hc (sprRead_ne_raise s npc n v u)

theorem Keeps.afterSprRead (n : SprNum) : Keeps w s (s.afterSprRead n) := by
  unfold State.afterSprRead
  split <;> exact .of_same

/-- What a check of a write to a special register can answer: a frame of `s`, or a refusal. -/
def WriteKeeps (w : MayWrite) (s : State) (c : Check State) : Prop :=
  (∃ t, c = .ok t ∧ Keeps w s t) ∨ ∃ x, c = .refuse x

theorem WriteKeeps.ok {t : State} (h : Keeps w s t) : WriteKeeps w s (.ok t) := .inl ⟨t, rfl, h⟩

theorem WriteKeeps.refuse (x : Refusal) : WriteKeeps w s (.refuse x) := .inr ⟨x, rfl⟩

theorem WriteKeeps.breakoutWrite (v : Word) : WriteKeeps w s (s.breakoutWrite v) := by
  unfold State.breakoutWrite
  split_ifs
  case neg => exact .refuse _
  all_goals exact .ok .of_same

theorem WriteKeeps.systemWrite (hw : w.preds = true) (n : SprNum) (v : Word) : WriteKeeps w s (s.systemWrite n v) := by
  unfold State.systemWrite
  split
  case h_5 => exact .ok (.withPreds hw _)
  case h_9 => exact .breakoutWrite v
  case h_10 => exact .refuse _
  all_goals exact .ok .of_same

theorem WriteKeeps.sprWrite (hw : w.preds = true) (n : SprNum) (v : Word) : WriteKeeps w s (s.sprWrite n v) := by
  unfold State.sprWrite
  split_ifs
  · exact .ok (.setPred hw _ _)
  · exact .ok (.setCodeReg _ _)
  · exact .ok .of_same
  · exact .ok .of_same
  · exact .systemWrite hw n v

/-- A special register written, from a frame of `s`, and the program counter moved. -/
theorem Ends.sprWrite (hw : w.preds = true) {t : State} (h : Keeps w s t) {n : SprNum} {v npc : Word} :
    Ends w s ((t.sprWrite n v).run fun u => .next (u.setPc npc)) := by
  obtain ⟨u, hu, hk⟩ | ⟨x, hx⟩ := WriteKeeps.sprWrite (s := t) hw n v
  · rw [hu]; exact .next (h.trans (hk.trans (.setPc npc)))
  · rw [hx]; exact .refused x

end

/-! ### Every instruction -/

/-- The parts that each instruction may write when it raises nothing (10_state.md R39, 20_memory.md R81,
41_compare_predicate.md R220, 60_exceptions.md R583). -/
def mayWrite (i : Instr) : MayWrite where
  mem := storesToMemory i
  preds := writesPredicates i
  sr :=
    match i with
    | .cli .. | .sei .. | .int .. | .rti .. => true
    | _ => false
  mode :=
    match i with
    | .sys .. | .int .. | .rte .. | .rtd .. | .rti .. => true
    | _ => false
  leaves :=
    match i with
    | .rte .. | .rtd .. | .rti .. => true
    | _ => false
  clk :=
    match i with
    | .stp .. => true
    | _ => false

section
variable (s : State) (q : Pred)

theorem ends_execMlo (rt ra rb rc : Reg) : Ends (mayWrite (.mlo q rt ra rb rc)) s (execMlo q rt ra rb rc s) := by
  refine .guarded fun npc => ?_
  split
  · exact .finishReg _ _ _ .of_same
  · exact .refused _

theorem ends_execBr (disp : BitVec 12) : Ends (mayWrite (.br q disp)) s (execBr q disp s) :=
  .guarded fun _ => .next (.setPc _)

theorem ends_execLoop (disp : BitVec 8) : Ends (mayWrite (.loop q disp)) s (execLoop q disp s) := by
  refine .guarded fun npc => ?_
  split <;> exact .next .of_same

theorem ends_execRts4 (cr : CodeReg) (im4 : BitVec 4) (adj : BitVec 8) :
    Ends (mayWrite (.rts4 q cr im4 adj)) s (execRts4 q cr im4 adj s) := by
  refine .guarded fun npc => ?_
  split
  · exact .next ((Keeps.setReg _ _).trans (.setPc _))
  · exact .refused _

theorem ends_execLvwar (sg : SegReg) (rt ra : Reg) (disp : BitVec 9) :
    Ends (mayWrite (.lvwar q sg rt ra disp)) s (execLvwar q sg rt ra disp s) := by
  refine .guarded fun npc => .dataCheck fun p => .finishReg _ _ _ ?_
  exact .of_same

theorem ends_execMfspr (rt : Reg) (spr : SprNum) : Ends (mayWrite (.mfspr q rt spr)) s (execMfspr q rt spr s) :=
  .guarded fun _ => .sprRead fun _ => .finishReg _ _ _ (.afterSprRead spr)

theorem ends_execSwcr (sg : SegReg) (rs ra : Reg) (disp : BitVec 9) :
    Ends (mayWrite (.swcr q sg rs ra disp)) s (execSwcr q sg rs ra disp s) := by
  refine .guarded fun npc => .dataCheck fun p => ?_
  have hstored : Keeps (mayWrite (.swcr q sg rs ra disp)) s
      (if s.reserved p.pa then (s.storeValue p 8 (s.reg rs)).setPred 0 0#4 else s.setPred 0 1#4) := by
    split
    · exact (Keeps.storeValue rfl _ _ _).trans (.setPred rfl _ _)
    · exact .setPred rfl _ _
  refine .next (hstored.trans ?_)
  exact .of_same

theorem ends_execCas (rt ra rb rc : Reg) (disp : BitVec 8) :
    Ends (mayWrite (.cas q rt ra rb rc disp)) s (execCas q rt ra rb rc disp s) := by
  refine .guarded fun npc => .dataCheck fun p => .finishReg _ _ _ ?_
  split
  · exact .storeValue rfl _ _ _
  · exact .of_same

theorem ends_execInc (sg : SegReg) (o3 sz : BitVec 3) (ra : Reg) (disp : BitVec 9) (amt : BitVec 8) :
    Ends (mayWrite (.inc q sg o3 sz ra disp amt)) s (execInc q sg o3 sz ra disp amt s) := by
  refine .guarded fun npc => ?_
  split
  · exact .dataCheck fun p => .next ((Keeps.storeValue rfl _ _ _).trans (.setPc npc))
  · exact .refused _

theorem ends_execLws (sg : SegReg) (spr : SprNum) (ra : Reg) (disp : BitVec 9) :
    Ends (mayWrite (.lws q sg spr ra disp)) s (execLws q sg spr ra disp s) := by
  refine .guarded fun npc => ?_
  split
  · exact .memRead fun v => .sprWrite rfl .of_same
  · exact .refused _

theorem ends_execMovs (sprt spr : SprNum) : Ends (mayWrite (.movs q sprt spr)) s (execMovs q sprt spr s) :=
  .guarded fun _ => .sprRead fun _ => .sprWrite rfl (.afterSprRead spr)

theorem ends_execSws (sg : SegReg) (spr : SprNum) (ra : Reg) (disp : BitVec 9) :
    Ends (mayWrite (.sws q sg spr ra disp)) s (execSws q sg spr ra disp s) :=
  .guarded fun npc => .sprRead fun _ => .memWrite fun _ =>
    .next (((Keeps.storeValue rfl _ _ _).trans (.afterSprRead spr)).trans (.setPc npc))

theorem ends_execStset (sg : SegReg) (sz : Size) (dir : Direction) (ra rb : Reg) :
    Ends (mayWrite (.stset q sg sz dir ra rb)) s (execStset q sg sz dir ra rb s) :=
  .stringStep fun npc => .memWrite fun _ => .endElement ((Keeps.storeValue rfl _ _ _).trans (.advance ra sz dir)) npc

theorem ends_execStmov (sg : SegReg) (sz : Size) (dir : Direction) (ra rb rc : Reg) :
    Ends (mayWrite (.stmov q sg sz dir ra rb rc)) s (execStmov q sg sz dir ra rb rc s) :=
  .stringStep fun npc => .memRead fun _ => .memWrite fun _ =>
    .endElement ((Keeps.storeValue rfl _ _ _).trans (.advance rc sz dir)) npc

theorem ends_execStcmp (sg : SegReg) (sz : Size) (dir : Direction) (ra rb rc : Reg) :
    Ends (mayWrite (.stcmp q sg sz dir ra rb rc)) s (execStcmp q sg sz dir ra rb rc s) := by
  refine .stringStep fun npc => .memRead fun _ => .memRead fun _ => .endElement ?_ npc
  split
  · exact .advance rc sz dir
  · exact .of_same

theorem ends_execStfnd (sg : SegReg) (sz : Size) (dir : Direction) (ra rb rc : Reg) :
    Ends (mayWrite (.stfnd q sg sz dir ra rb rc)) s (execStfnd q sg sz dir ra rb rc s) := by
  refine .stringStep fun npc => .memRead fun _ => .endElement ?_ npc
  split
  · exact .of_same
  · exact .advance rc sz dir

theorem ends_execTlbrdreg (tn : BitVec 4) (rt : Reg) :
    Ends (mayWrite (.tlbrdreg q tn rt)) s (execTlbrdreg q tn rt s) := by
  refine .tlbCommand fun npc => ?_
  split
  · exact .finishReg _ _ _ .of_same
  · exact .refused _

theorem ends_execTlbwrreg (tn : BitVec 4) (rb : Reg) :
    Ends (mayWrite (.tlbwrreg q tn rb)) s (execTlbwrreg q tn rb s) := by
  refine .tlbCommand fun npc => ?_
  split
  · exact .next .of_same
  · exact .refused _

/-! ### Calls, returns and the interrupt mask -/

/-- A frame of `s` in which SR or the mode was written as the mark allows. -/
theorem Keeps.withMode {w : MayWrite} {s : State} (sr : BitVec 32) (exl : BitVec 8) (hwi : Bool) (pc : Word)
    (hsr : w.sr = false → sr = s.sr) (hexl : w.mode = false → exl = s.exl) (hhwi : w.mode = false → hwi = s.hwi)
    (hkernel : w.leaves = false → s.kernel = true → (exl != 0 || hwi) = true) :
    Keeps w s { s with sr := sr, exl := exl, hwi := hwi, pc := pc } :=
  { mem _ := rfl, memWf := id, preds _ := rfl, sr := hsr, exl := hexl, hwi := hhwi, kernel := hkernel, clk _ := rfl
    r0 := rfl, c0 := rfl, c15 := rfl }

theorem Ends.callSystem {w : MayWrite} (hw : w.mode = true) (v : BitVec 8) (ret : Word) :
    Ends w s (callSystem v ret s) := by
  unfold Machine.callSystem
  split
  · exact .refused _
  · refine .next ((Keeps.setCodeReg 13 ret).trans (.withMode _ (levelUp s.exl) _ _ (fun _ => rfl) ?_ ?_ ?_))
    · exact fun h => absurd (hw.symm.trans h) (by decide)
    · exact fun _ => rfl
    · exact fun _ _ => by rw [bne_iff_ne.mpr (levelUp_ne_zero _), Bool.true_or]

theorem Ends.callInterrupt {w : MayWrite} (hmode : w.mode = true) (hsr : w.sr = true) (v : BitVec 8) :
    Ends w s (callInterrupt v s) := by
  unfold Machine.callInterrupt
  split
  · exact .refused _
  · refine .next ((Keeps.setCodeReg 14 s.pc).trans (.withMode _ _ true _ ?_ (fun _ => rfl) ?_ ?_))
    · exact fun h => absurd (hsr.symm.trans h) (by decide)
    · exact fun h => absurd (hmode.symm.trans h) (by decide)
    · exact fun _ _ => Bool.or_true _

theorem Ends.returnFromException {w : MayWrite} (hmode : w.mode = true) (hleaves : w.leaves = true) (link : CodeReg) :
    Ends w s (returnFromException link s) := by
  refine .next (.withMode s.sr (levelDown s.exl) s.hwi _ (fun _ => rfl) ?_ (fun _ => rfl) ?_)
  · exact fun h => absurd (hmode.symm.trans h) (by decide)
  · exact fun h => absurd (hleaves.symm.trans h) (by decide)

theorem Ends.returnFromInterrupt {w : MayWrite} (hsr : w.sr = true) (hmode : w.mode = true)
    (hleaves : w.leaves = true) : Ends w s (returnFromInterrupt s) := by
  refine .next (.withMode (srOnReturn s.sr) s.exl false _ ?_ (fun _ => rfl) ?_ ?_)
  · exact fun h => absurd (hsr.symm.trans h) (by decide)
  · exact fun h => absurd (hmode.symm.trans h) (by decide)
  · exact fun h => absurd (hleaves.symm.trans h) (by decide)

theorem Ends.setInterruptMask {w : MayWrite} (hsr : w.sr = true) (v : Bool) (npc : Word) :
    Ends w s (.next ((s.setInterruptMask v).setPc npc)) :=
  .next (.withMode _ s.exl s.hwi npc (fun h => absurd (hsr.symm.trans h) (by decide)) (fun _ => rfl) (fun _ => rfl)
    fun _ => id)

theorem ends_execSys (cr crt : CodeReg) (off : BitVec 8) :
    Ends (mayWrite (.sys q cr crt off)) s (execSys q cr crt off s) := by
  refine .guarded fun npc => ?_
  split
  · exact .callSystem s rfl _ _
  · exact .refused _

theorem ends_execInt (cr crt : CodeReg) (off : BitVec 8) :
    Ends (mayWrite (.int q cr crt off)) s (execInt q cr crt off s) := by
  refine .guarded fun npc => ?_
  split
  · exact .callInterrupt s rfl rfl _
  · exact .refused _

theorem Ends.withClk {w : MayWrite} (hw : w.clk = true) (clk : ClockControl) (pc : Word) :
    Ends w s (.next { s with clk := clk, pc := pc }) :=
  .next
    { mem _ := rfl, memWf := id, preds _ := rfl, sr _ := rfl, exl _ := rfl, hwi _ := rfl, kernel _ := id, r0 := rfl
      c0 := rfl, c15 := rfl
      clk h := absurd (hw.symm.trans h) (by decide) }

end

/-! ### Every instruction -/

/-- Every instruction ends in a frame of the state that it began in, or raises: one case for each shape. -/
theorem exec_ends (i : Instr) (s : State) : Ends (mayWrite i) s (exec i s) := by
  cases i with
  | brk => exact .raise _
  | nop1 | rts1 | nop2 | memdb | sync | memsb => exact .next .of_same
  | imm16 | imm24 | imm32 | imm40 | imm48 | imm56 | imm64 => exact .setPrefix
  | tst | cmp | cmpi | biti => exact .writePred rfl
  | pand | por | peor | pnand | pnor | penor | pandc | porc => exact .writePredBit rfl
  | add | addi | sub | subi | mul | muli => exact .writeExact
  | div | divi => exact .writeQuotient
  | addu | addui | adduiShort | subu | subui | addu2 | addui2 | addu4 | addui4 | addu8 | addui8 | addu16 | addui16
  | mulu | mului | divu | divui | min | max | abs | neg | mov | ldi | bcdadd | bcdsub | bcdmul | cpuid | and | or | eor
  | nand | nor | enor | andc | orc | andi | ori | eori | mux | not | com | shl | shr | shlu | shru | rol | ror | shli
  | shri | shlui | shrui | roli | rori | cntlz | cntlo | cntpop | sxb | sxc | sxh | zxb | zxc | zxh => exact .writeReg
  | bfins | bfset | bfclr | bfchg | bfext | bfextu | bfinsi => exact .writeField
  | mlo => exact ends_execMlo s _ _ _ _ _
  | lb | lbu | lc | lcu | lh | lhu | lw | lwShort | lbx | lbux | lcx | lcux | lhx | lhux | lwx | lvb | lvc | lvh
  | lvw => exact .loadReg
  | sb | sc | sh | sw | sbx | scx | shx | swx | sti | stix => exact .storeWord rfl
  | jci | jhi | jwi | jcix | jhix | jwix => exact .jumpThrough
  | jsr3 | jsr5 | jsr6 => exact .guarded fun _ => .jumpAndLink
  | br => exact ends_execBr s _ _
  | rts3 | lcl | cacheInvD | cacheInvDLine => exact .guarded fun _ => .next (.setPc _)
  | cacheInvI | cacheInvILine => exact .guarded fun _ => .next .of_same
  | loop => exact ends_execLoop s _ _
  | rts4 => exact ends_execRts4 s _ _ _ _
  | lvwar => exact ends_execLvwar s _ _ _ _ _
  | swcr => exact ends_execSwcr s _ _ _ _ _
  | cas => exact ends_execCas s _ _ _ _ _ _
  | inc => exact ends_execInc s _ _ _ _ _ _ _
  | lws => exact ends_execLws s _ _ _ _ _
  | sws => exact ends_execSws s _ _ _ _ _
  | mfspr => exact ends_execMfspr s _ _ _
  | mtspr | ldis => exact .guarded fun _ => .sprWrite rfl .of_same
  | movs => exact ends_execMovs s _ _ _
  | stset => exact ends_execStset s _ _ _ _ _ _
  | stmov => exact ends_execStmov s _ _ _ _ _ _ _
  | stcmp => exact ends_execStcmp s _ _ _ _ _ _ _
  | stfnd => exact ends_execStfnd s _ _ _ _ _ _ _
  | sys => exact ends_execSys s _ _ _ _
  | int => exact ends_execInt s _ _ _ _
  | rte | rtd => exact .guarded fun _ => .privileged (.returnFromException s rfl rfl _)
  | rti => exact .guarded fun _ => .privileged (.returnFromInterrupt s rfl rfl rfl)
  | cli | sei => exact .guarded fun _ => .privileged (.setInterruptMask s rfl _ _)
  | stp => exact .guarded fun _ => .withClk s rfl _ _
  | tlbnop | tlbpb | tlbrd | tlbwr | tlbwi | tlben | tlbdis | tlbinv => exact .tlbCommand fun _ => .next .of_same
  | tlbrdreg => exact ends_execTlbrdreg s _ _ _
  | tlbwrreg => exact ends_execTlbwrreg s _ _ _
  | sgn | redor | redand | par => exact .guarded fun _ => .refused _
  | fmac | fmov | ftoi | itof | fneg | fabs | fsign | fman | fnabs | fstat | frm | fcmp | fadd | fsub | fmul | fdiv
  | fcmps | fadds | fsubs | fmuls | fdivs | fmovs | ftois | itofs | fnegs | fabss | fsigns | fmans | fnabss | ftx
  | fcx | fex | fdx | ftst | fstst | fscmp | lfs | lfd | sfs | sfd | push | pea | pop | link | unlink | immFF =>
    exact .refused _

/-- Settles O16: memory is marked for the stores only, and an entry leaves it alone. -/
theorem memoryWriters : Obligations.MemoryWriters := by
  intro i s t h hi a
  obtain hkeeps | hraised := exec_ends i s t h
  · rw [hkeeps.mem hi]
  · rw [hraised.keeps.mem rfl]

/-- Settles O17: the predicate registers are marked for R220's list only, and an entry leaves them alone. -/
theorem predicateWriters : Obligations.PredicateWriters := by
  intro i s t h hi p
  obtain hkeeps | hraised := exec_ends i s t h
  · rw [State.pred, State.pred, hkeeps.preds hi]
  · rw [State.pred, State.pred, hraised.keeps.preds rfl]

/-! ### What a fetch raises from -/

/-- The states a check raises from are frames of `s`. -/
def RaisesFrom {α : Type} (s : State) (c : Check α) : Prop := ∀ v u, c = .raise v u → ∀ w, Keeps w s u

section
variable {α β : Type} {s : State}

theorem RaisesFrom.ok (a : α) : RaisesFrom s (.ok a : Check α) := fun _ _ h => by cases h

theorem RaisesFrom.andThen {c : Check α} {f : α → Check β} (hc : RaisesFrom s c) (hf : ∀ a, RaisesFrom s (f a)) :
    RaisesFrom s (c.andThen f) := by
  cases c with
  | ok a => exact hf a
  | raise v u => exact fun v' u' h => by cases h; exact hc v u rfl
  | fault | refuse => exact fun _ _ h => by cases h

theorem raisesFrom_fetchAddress (k : Nat) : RaisesFrom s (fetchAddress s k) := by
  intro v u h w
  simp only [fetchAddress] at h
  split at h
  · cases h; exact .of_same
  split at h
  · cases h
  split at h
  · cases h
  · cases h
  · cases h
    rw [recordFetchMiss_eq]
    exact .of_same
  · split at h <;> cases h
    exact .of_same

theorem raisesFrom_fetchByte (k : Nat) : RaisesFrom s (fetchByte s k) :=
  .andThen (raisesFrom_fetchAddress k) fun _ => .ok _

theorem raisesFrom_fetchBytes (n k : Nat) : RaisesFrom s (fetchBytes s k n) := by
  induction n generalizing k with
  | zero => exact .ok _
  | succ n ih => exact .andThen (raisesFrom_fetchByte k) fun _ => .andThen (ih (k + 1)) fun _ => .ok _

theorem raisesFrom_fetchItem (k : Nat) : RaisesFrom s (fetchItem s k) := by
  refine .andThen (raisesFrom_fetchByte k) fun b => ?_
  split
  · exact .ok _
  · exact .ok _
  · exact .ok _
  · exact .andThen (raisesFrom_fetchBytes _ _) fun _ => .ok _
  · exact .andThen (raisesFrom_fetchByte _) fun _ => .andThen (raisesFrom_fetchBytes _ _) fun _ => .ok _
  · exact .andThen (raisesFrom_fetchByte _) fun _ => .andThen (raisesFrom_fetchBytes _ _) fun _ => .ok _

theorem raisesFrom_fetchUnitBytes : RaisesFrom s (fetchUnitBytes s) := by
  refine .andThen (raisesFrom_fetchItem 0) fun bs => ?_
  split
  · exact .andThen (raisesFrom_fetchItem _) fun _ => .ok _
  · exact .ok _

theorem RaisesFrom.debugFetchCheck {c : Check α} (hc : RaisesFrom s c) : RaisesFrom s (debugFetchCheck s c) := by
  intro v u h w
  simp only [Machine.debugFetchCheck] at h
  split at h
  · exact hc v u h w
  · cases c with
    | ok a => cases h; exact .of_same
    | raise v' u' =>
      dsimp only at h
      split at h <;> cases h
      · exact .of_same
      · exact hc v u rfl w
    | fault | refuse => cases h

end

/-- The prefix of a fetched unit opens with a prefix byte. -/
theorem isPrefix_of_fetchUnitBytes {s : State} {u : UnitBytes} {bs : List Byte} (h : fetchUnitBytes s = .ok u)
    (hbs : u.prefixBytes = some bs) : isPrefix bs = true := by
  unfold fetchUnitBytes at h
  cases hfirst : fetchItem s 0 with
  | ok pre =>
    simp only [hfirst, Check.andThen] at h
    split at h
    · split at h <;> cases h
      cases hbs
      assumption
    · cases h
      cases hbs
  | raise | fault | refuse =>
    rw [hfirst] at h
    cases h

/-! ### The unit and the step -/

theorem setPrefix_keeps {w : MayWrite} {m : Nat} {ext : BitVec 56} {s t : State} (h : setPrefix m ext s = .next t) :
    Keeps w s t := by
  unfold setPrefix at h
  split at h <;> cases h
  exact .of_same

/-- The prefix of a unit writes nothing that `Keeps` speaks of (30_encoding.md R139). -/
theorem exec_prefix_keeps {w : MayWrite} {bs : List Byte} {p : Instr} {s t : State} (hbs : isPrefix bs = true)
    (hp : decode bs = .ok p) (h : exec p s = .next t) : Keeps w s t := by
  obtain ⟨m, v, h1, h7, hp⟩ := decodeImmediate_of_isPrefix hbs hp
  interval_cases m <;> cases hp <;> exact setPrefix_keeps h

theorem raised_of_rejectUnit {s t : State} {e : DecodeError} (h : rejectUnit s e = .next t) : Raised s t := by
  cases e with
  | undefinedOpcode | undefinedFunction => exact raised_of_raiseException h
  | reservedPredicate | undescribedFloat => cases h

theorem runDecoded_next {s t : State} {u : UnitBytes} {i : Instr} (hu : fetchUnitBytes s = .ok u)
    (h : runDecoded exec s u.prefixBytes i = .next t) :
    (∃ s', (∀ w, Keeps w s s') ∧ exec i s' = .next t) ∨ Raised s t := by
  unfold runDecoded at h
  split at h
  · exact .inl ⟨s, fun _ => .of_same, h⟩
  · split at h
    · split at h
      · obtain ⟨s', hp, hi⟩ := andThen_eq_next h
        exact .inl ⟨s', fun _ => exec_prefix_keeps (isPrefix_of_fetchUnitBytes hu ‹_›) ‹_› hp, hi⟩
      · exact .inr (raised_of_rejectUnit h)
    · cases h

theorem endStep_keeps {w : MayWrite} (s : State) : Keeps w s (endStep s) := .of_same

/-- The end of a unit is the end of a step, from where the instruction left or from a single-step exception. -/
theorem afterUnit_next {s t u : State} {i : Instr} (h : afterUnit s i t = .next u) :
    u = endStep t ∨ ∃ w, Raised t w ∧ u = endStep w := by
  obtain ⟨-, rfl⟩ | ⟨-, w, hw, rfl⟩ := afterUnit_cases h
  · exact .inl rfl
  · exact .inr ⟨w, .of_keeps (endStep_keeps t) (raised_of_raiseException hw), rfl⟩

/-- A unit that answers a next state ran its instruction from a frame of `s`, or raised. -/
theorem runUnit_next {s t : State} (h : runUnit exec s = .next t) :
    (∃ u i s' w, fetchUnitBytes s = .ok u ∧ decode u.body = .ok i ∧ (∀ w, Keeps w s s') ∧ exec i s' = .next w ∧
      (t = endStep w ∨ ∃ x, Raised w x ∧ t = endStep x)) ∨
    ∃ w x, Raised s w ∧ t = endStep x ∧ (x = w ∨ Raised w x) := by
  obtain ⟨u, i, w, hu, hd, hw, ht⟩ | ⟨u, e, w, -, -, hw, rfl⟩ | ⟨v, u, w, hu, hw, rfl⟩ := runUnit_cases h
  · obtain ⟨s', hs', hi⟩ | hraised := runDecoded_next hu hw
    · exact .inl ⟨u, i, s', w, hu, hd, hs', hi, afterUnit_next ht⟩
    · obtain rfl | ⟨x, hx, rfl⟩ := afterUnit_next ht
      · exact .inr ⟨w, w, hraised, rfl, .inl rfl⟩
      · exact .inr ⟨w, x, hraised, rfl, .inr hx⟩
  · exact .inr ⟨w, w, raised_of_rejectUnit hw, rfl, .inl rfl⟩
  · have hkeeps := RaisesFrom.debugFetchCheck raisesFrom_fetchUnitBytes v u hu
    exact .inr ⟨w, w, .of_keeps (hkeeps _) (raised_of_raiseException hw), rfl, .inl rfl⟩

/-! ### The beginning of a step -/

/-- The clock control after the inputs: as it was, or restarted by an edge of the NMI line (60_exceptions.md R610). -/
theorem beginStep_keeps {w : MayWrite} (hw : w.clk = true) (s : State) : Keeps w s (beginStep s) := by
  have hpins : ∀ t : State, Keeps w t t.nextPins := fun t => by
    unfold State.nextPins
    split <;> exact .of_same
  have hnmi : ∀ (t : State) (old : Bool), Keeps w t (t.noteNmi old) := fun t old => by
    unfold State.noteNmi
    split
    · exact
        { mem _ := rfl, memWf := id, preds _ := rfl, sr _ := rfl, exl _ := rfl, hwi _ := rfl, kernel _ := id
          r0 := rfl, c0 := rfl, c15 := rfl, clk h := absurd (hw.symm.trans h) (by decide) }
    · exact .of_same
  have hlost : ∀ t : State, Keeps w t t.dropLost := fun t => by
    unfold State.dropLost
    split <;> exact .of_same
  have hbegin : Keeps w s { s with immPrefix := none, progress := .retired } := .of_same
  exact ((hbegin.trans (hpins _)).trans (hnmi _ _)).trans (hlost _)

theorem beginStep_clk (s : State) :
    (beginStep s).clk = s.clk ∨ (beginStep s).clk = { rate := 0xAAAA, stopped := false } := by
  have hlost : ∀ t : State, t.dropLost.clk = t.clk := fun t => by
    unfold State.dropLost
    split <;> rfl
  have hpins : ∀ t : State, t.nextPins.clk = t.clk := fun t => by
    unfold State.nextPins
    split <;> rfl
  rw [beginStep, hlost, State.noteNmi]
  split
  · exact .inr rfl
  · exact .inl (hpins _)

/-! ### Leaving kernel mode (60_exceptions.md R583) -/

/-- The marks of the mode, of SR and of the end of kernel mode, read off the instruction. -/
theorem mayWrite_mode_of_changesMode {i : Instr} (h : changesMode i = false) : (mayWrite i).mode = false := by
  cases i with
  | sys | int | rte | rtd | rti => cases h
  | _ => rfl

theorem exists_of_mayWrite_leaves {i : Instr} (h : (mayWrite i).leaves = true) :
    ∃ q, i = .rte q ∨ i = .rtd q ∨ i = .rti q := by
  cases i with
  | rte q => exact ⟨q, .inl rfl⟩
  | rtd q => exact ⟨q, .inr (.inl rfl)⟩
  | rti q => exact ⟨q, .inr (.inr rfl)⟩
  | _ => cases h

theorem exists_of_mayWrite_sr {i : Instr} (h : (mayWrite i).sr = true) :
    ∃ q, i = .cli q ∨ i = .sei q ∨ i = .rti q ∨ ∃ cr crt off, i = .int q cr crt off := by
  cases i with
  | cli q => exact ⟨q, .inl rfl⟩
  | sei q => exact ⟨q, .inr (.inl rfl)⟩
  | rti q => exact ⟨q, .inr (.inr (.inl rfl))⟩
  | int q cr crt off => exact ⟨q, .inr (.inr (.inr ⟨cr, crt, off, rfl⟩))⟩
  | _ => cases h

/-- An instruction that ends kernel mode is marked for it. -/
theorem exec_leaves_kernel {i : Instr} {s t : State} (h : exec i s = .next t) (hs : s.kernel = true)
    (ht : t.kernel = false) : ∃ q, i = .rte q ∨ i = .rtd q ∨ i = .rti q := by
  apply exists_of_mayWrite_leaves
  by_contra hleaves
  obtain hkeeps | hraised := exec_ends i s t h
  · rw [hkeeps.kernel (by simpa using hleaves) hs] at ht
    cases ht
  · rw [hraised.kernel] at ht
    cases ht

theorem kernel_endStep (s : State) : (endStep s).kernel = s.kernel := rfl

theorem Ends.of_keeps {w : MayWrite} {s s' : State} {r : Result} (h : ∀ w, Keeps w s s') (k : Ends w s' r) :
    Ends w s r := fun t ht => (k t ht).imp (h _).trans (.of_keeps (h _))

theorem Ends.enterInterrupt {w : MayWrite} (hmode : w.mode = true) (hsr : w.sr = true) (v : BitVec 8) (s : State) :
    Ends w s (enterInterrupt v s) :=
  .of_keeps (fun _ => .of_same) (.callInterrupt { s with exc := s.causeValue v } hmode hsr v)

theorem kernel_of_ends {w : MayWrite} (hw : w.leaves = false) {s t : State} {r : Result} (hends : Ends w s r)
    (h : r = .next t) (hs : s.kernel = true) : t.kernel = true :=
  (hends t h).elim (fun k => k.kernel hw hs) Raised.kernel

theorem kernel_enterNmi {s t : State} (h : enterNmi s = .next t) (hs : s.kernel = true) : t.kernel = true :=
  kernel_of_ends (w := { sr := true, mode := true }) rfl (.enterInterrupt rfl rfl _ _) h hs

theorem kernel_enterInterrupt {v : BitVec 8} {s t : State} (h : enterInterrupt v s = .next t) (hs : s.kernel = true) :
    t.kernel = true :=
  kernel_of_ends (w := { sr := true, mode := true }) rfl (.enterInterrupt rfl rfl _ _) h hs

/-- A step ends kernel mode only through the instruction of its unit. -/
theorem step_leaves_kernel {s t : State} (h : step s = .next t) (hs : s.kernel = true) (ht : t.kernel = false) :
    ∃ u i q, fetchUnitBytes (beginStep s) = .ok u ∧ decode u.body = .ok i ∧
      (i = .rte q ∨ i = .rtd q ∨ i = .rti q) := by
  have hbegin : (beginStep s).kernel = true := (beginStep_keeps (w := { clk := true }) rfl s).kernel rfl hs
  obtain ⟨-, rfl⟩ | ⟨-, rfl⟩ | ⟨-, u, hu, rfl⟩ | ⟨-, u, hu, rfl⟩ | ⟨-, hu⟩ := step_cases h
  · exact absurd ht (by simp [endStep, warmReset, State.kernel, State.reset])
  · exact absurd (hbegin.symm.trans ht) (by decide)
  · exact absurd ((kernel_enterNmi hu hbegin).symm.trans ht) (by decide)
  · exact absurd ((kernel_enterInterrupt hu hbegin).symm.trans ht) (by decide)
  · obtain ⟨u, i, s', w, hf, hd, hs', hi, rfl | ⟨x, hx, rfl⟩⟩ | ⟨w, x, hw, rfl, rfl | hx⟩ := runUnit_next hu
    · obtain ⟨q, hq⟩ := exec_leaves_kernel hi ((hs' {}).kernel rfl hbegin) ht
      exact ⟨u, i, q, hf, hd, hq⟩
    · exact absurd (hx.kernel.symm.trans ht) (by decide)
    · exact absurd (hw.kernel.symm.trans ht) (by decide)
    · exact absurd (hx.kernel.symm.trans ht) (by decide)

/-- Settles O15: the marks of `mayWrite` name the writers of the mode and of SR, and every other part of a step ends in
kernel mode when it began there. -/
theorem modeAndStatusWriters : Obligations.ModeAndStatusWriters := by
  refine ⟨fun i s t h hprogress hi => ?mode, fun i s t h hs ht => exec_leaves_kernel h hs ht,
    fun i s t h hsr => ?status,
    fun s t h hs ht => step_leaves_kernel h hs ht⟩
  case mode =>
    obtain hkeeps | hraised := exec_ends i s t h
    · have hmode := mayWrite_mode_of_changesMode hi
      exact ⟨hkeeps.exl hmode, hkeeps.hwi hmode⟩
    · exact absurd hraised.progress hprogress
  case status =>
    apply exists_of_mayWrite_sr
    by_contra hmark
    obtain hkeeps | hraised := exec_ends i s t h
    · exact hsr (hkeeps.sr (by simpa using hmark))
    · exact hsr (hraised.keeps.sr rfl)

/-! ### The invariant -/

/-- The part of the invariant that holds within a step too: all but the prefix and the progress note. -/
structure State.Sound (s : State) : Prop where
  mem : s.mem.wf = true
  r0 : s.regs[0] = 0
  c0 : s.code[0] = 0
  c15 : s.code[15] = 0
  clock : s.clk.stopped = (s.clk.rate == 0)

theorem State.Inv.sound {s : State} (h : s.Inv) : s.Sound := ⟨h.mem, h.r0, h.c0, h.c15, h.clock⟩

/-- The end of a step clears the prefix and the progress note. -/
theorem State.Sound.endStep {s : State} (h : s.Sound) : (endStep s).Inv := ⟨h.mem, h.r0, h.c0, h.c15, rfl, rfl, h.clock⟩

theorem Keeps.sound_of_clock {w : MayWrite} {s t : State} (k : Keeps w s t)
    (hclock : t.clk.stopped = (t.clk.rate == 0)) (h : s.Sound) : t.Sound :=
  ⟨k.memWf h.mem, k.r0.trans h.r0, k.c0.trans h.c0, k.c15.trans h.c15, hclock⟩

theorem Keeps.sound {w : MayWrite} {s t : State} (k : Keeps w s t) (hw : w.clk = false) (h : s.Sound) : t.Sound :=
  k.sound_of_clock (by rw [k.clk hw, h.clock]) h

theorem Raised.sound {s t : State} (k : Raised s t) (h : s.Sound) : t.Sound := k.keeps.sound rfl h

theorem sound_of_ends {w : MayWrite} (hw : w.clk = false) {s t : State} {r : Result} (hends : Ends w s r)
    (ht : r = .next t) (h : s.Sound) : t.Sound :=
  (hends t ht).elim (fun k => k.sound hw h) fun k => k.sound h

/-- STP stops the clock with its pattern, where the clock ran (46_system.md R512). -/
theorem execStp_sound {q : Pred} {imm : BitVec 16} {s t : State} (ht : execStp q imm s = .next t)
    (hrun : s.clk.stopped = false) (h : s.Sound) : t.Sound := by
  obtain ⟨-, rfl⟩ | ⟨-, ht⟩ := guarded_next ht
  · exact (Keeps.setPc (w := {}) _).sound rfl h
  · cases ht
    exact ⟨h.mem, h.r0, h.c0, h.c15, by rw [hrun, Bool.false_or]⟩

theorem exec_sound {i : Instr} {s t : State} (ht : exec i s = .next t) (hrun : s.clk.stopped = false) (h : s.Sound) :
    t.Sound := by
  cases hclk : (mayWrite i).clk with
  | false => exact sound_of_ends hclk (exec_ends i s) ht h
  | true =>
    cases i with
    | stp q imm => exact execStp_sound ht hrun h
    | _ => cases hclk

theorem beginStep_sound {s : State} (h : s.Sound) : (beginStep s).Sound := by
  refine (beginStep_keeps (w := { clk := true }) rfl s).sound_of_clock ?_ h
  obtain hclk | hclk := beginStep_clk s
  · rw [hclk, h.clock]
  · rw [hclk]
    rfl

theorem warmReset_mem (s : State) : (warmReset s).mem = s.mem := by rw [warmReset]

theorem warmReset_regs (s : State) : (warmReset s).regs = (freeWords s.clock 0 64).set 0 0 := rfl

theorem warmReset_code (s : State) : (warmReset s).code = ((freeWords s.clock 64 16).set 0 0).set 15 0 := rfl

theorem warmReset_clk (s : State) : (warmReset s).clk = { rate := 0xAAAA, stopped := false } := rfl

theorem warmReset_sound {s : State} (h : s.Sound) : (warmReset s).Sound where
  mem := by rw [warmReset_mem, h.mem]
  r0 := by rw [warmReset_regs, Vector.getElem_set_self]
  c0 := by rw [warmReset_code, Vector.getElem_set_ne _ _ (by decide), Vector.getElem_set_self]
  c15 := by rw [warmReset_code, Vector.getElem_set_self]
  clock := by rw [warmReset_clk]; rfl

theorem enterNmi_sound {s t : State} (ht : enterNmi s = .next t) (h : s.Sound) : t.Sound := by
  have hrestarted : ({ s.restartClock with nmiEdges := s.nmiEdges - 1 } : State).Sound :=
    ⟨h.mem, h.r0, h.c0, h.c15, rfl⟩
  exact sound_of_ends (w := { sr := true, mode := true }) rfl (.enterInterrupt rfl rfl _ _) ht hrestarted

theorem runUnit_sound {s t : State} (ht : runUnit exec s = .next t) (hrun : s.clk.stopped = false) (h : s.Sound) :
    t.Inv := by
  obtain ⟨u, i, s', w, -, -, hs', hi, hlast⟩ | ⟨w, x, hw, rfl, hlast⟩ := runUnit_next ht
  · have hs'run : s'.clk.stopped = false := by rw [(hs' {}).clk rfl, hrun]
    have hsound := exec_sound hi hs'run ((hs' {}).sound rfl h)
    obtain rfl | ⟨x, hx, rfl⟩ := hlast
    · exact hsound.endStep
    · exact (hx.sound hsound).endStep
  · obtain rfl | hx := hlast
    · exact (hw.sound h).endStep
    · exact (hx.sound (hw.sound h)).endStep

/-- Settles O13: each kind of step keeps what `State.Sound` says, and its end clears the rest. -/
theorem stepKeepsInvariant : Obligations.StepKeepsInvariant := by
  intro s t hinv ht
  have hbegin := beginStep_sound hinv.sound
  obtain ⟨-, rfl⟩ | ⟨-, rfl⟩ | ⟨-, u, hu, rfl⟩ | ⟨-, u, hu, rfl⟩ | ⟨hquiet, hu⟩ := step_cases ht
  · exact (warmReset_sound hbegin).endStep
  · exact hbegin.endStep
  · exact (enterNmi_sound hu hbegin).endStep
  · exact (sound_of_ends (w := { sr := true, mode := true }) rfl (.enterInterrupt rfl rfl _ _) hu hbegin).endStep
  · exact runUnit_sound hu hquiet.running hbegin

/-- Settles O12: the reset state, field by field. -/
theorem resetInvariant : Obligations.ResetInvariant :=
  ⟨State.reset_mem_wf, rfl, rfl, rfl, rfl, rfl, rfl⟩

/-- Settles O14: each value is the field that `State.reset` writes. -/
theorem resetState : Obligations.ResetState :=
  ⟨rfl, rfl, rfl, rfl, rfl, rfl, rfl, rfl, rfl, rfl, rfl⟩

end Sys2Proof.Machine
end

section
/-! PROOFS for 42_arithmetic.md: the instructions that raise on overflow or a zero divisor, the immediate
forms, BCD and CPUID (R251 to R288; 46_system.md R486, R487). -/

namespace Sys2Proof.Machine

/-! ### Checked results -/

/-- Settles O28: each instruction is one `writeExact`. -/
theorem checkedArithmetic : Obligations.CheckedArithmetic := by
  intro s q rt ra rb imm
  exact ⟨fun h => ⟨writeExact_completes h, writeExact_completes h, writeExact_completes h⟩,
    fun h => ⟨writeExact_completes h, writeExact_completes h, writeExact_completes h⟩⟩

/-! ### Division -/

/-- The quotient toward zero fits but for the most negative number by -1 (R265). -/
theorem fitsSigned_tdiv_iff (a b : Word) (hb : b ≠ 0) :
    fitsSigned (a.toInt.tdiv b.toInt) = true ↔ ¬(a.toInt = -(2 ^ 63) ∧ b.toInt = -1) := by
  have hlo := BitVec.le_toInt a
  have hhi := BitVec.toInt_lt (x := a)
  have hb' : b.toInt ≠ 0 := fun h => hb (BitVec.eq_of_toInt_eq (by rw [h]; rfl))
  have hquot : (a.toInt.tdiv b.toInt).natAbs = a.toInt.natAbs / b.toInt.natAbs := Int.natAbs_tdiv ..
  rw [fitsSigned_iff]
  by_cases hone : b.toInt = 1
  · rw [hone, Int.tdiv_one]
    omega
  by_cases hneg : b.toInt = -1
  · rw [hneg, Int.tdiv_neg, Int.tdiv_one]
    omega
  · have hhalf := Nat.div_le_div_left (show 2 ≤ b.toInt.natAbs by omega) (by decide) (a := a.toInt.natAbs)
    omega

section
variable {q : Pred} {len : Nat} {named : List Reg} {rt : Reg} {a b : Word} {s : State} (h : s.Executes q named)
include h

theorem writeQuotient_zero (hb : b = 0) : writeQuotient q len named rt a b s = raiseException vecDivideByZero s := by
  rw [writeQuotient, guarded_executes h, if_pos hb]

theorem writeQuotient_overflows (hb : b ≠ 0) (hmin : a.toInt = -(2 ^ 63) ∧ b.toInt = -1) :
    writeQuotient q len named rt a b s = raiseException vecOverflow s := by
  have hfits : fitsSigned (a.toInt.tdiv b.toInt) = false := by
    rw [← Bool.not_eq_true, fitsSigned_tdiv_iff a b hb, not_not]
    exact hmin
  rw [writeQuotient, guarded_executes h, if_neg hb, hfits]
  exact if_pos rfl

theorem writeQuotient_completes (hb : b ≠ 0) (hmin : ¬(a.toInt = -(2 ^ 63) ∧ b.toInt = -1)) :
    completesReg (writeQuotient q len named rt a b s) s len rt (BitVec.ofInt 64 (a.toInt.tdiv b.toInt)) := by
  rw [writeQuotient, guarded_executes h, if_neg hb, (fitsSigned_tdiv_iff a b hb).mpr hmin, Bool.not_true,
    Bool.and_false,
    if_neg Bool.false_ne_true]
  exact finishReg_completes s len rt _

/-- A nonzero divisor: the quotient, or the overflow of the most negative number by -1. -/
theorem writeQuotient_nonzero (hb : b ≠ 0) :
    if a.toInt = -(2 ^ 63) ∧ b.toInt = -1 then writeQuotient q len named rt a b s = raiseException 240 s
    else completesReg (writeQuotient q len named rt a b s) s len rt (BitVec.ofInt 64 (a.toInt.tdiv b.toInt)) := by
  split
  · exact writeQuotient_overflows h hb ‹_›
  · exact writeQuotient_completes h hb ‹_›

theorem writeQuotient_completes_or_overflows (hb : b ≠ 0) :
    (∃ v, completesReg (writeQuotient q len named rt a b s) s len rt v) ∨
      writeQuotient q len named rt a b s = raiseException 240 s := by
  by_cases hmin : a.toInt = -(2 ^ 63) ∧ b.toInt = -1
  · exact .inr (writeQuotient_overflows h hb hmin)
  · exact .inl ⟨_, writeQuotient_completes h hb hmin⟩

end

theorem unsignedQuotient_nonzero (s : State) (a : Word) {b : Word} (hb : b ≠ 0) :
    unsignedQuotient s a b = BitVec.ofNat 64 (a.toNat / b.toNat) := if_neg hb

/-- Settles O27: the signed divisions are `writeQuotient`, the unsigned ones a `writeReg`. -/
theorem divideByZeroTraps : Obligations.DivideByZeroTraps := by
  refine fun s q rt ra rb imm => ⟨fun h => ⟨fun hb harea => ?_, fun hb => ?_, _, writeReg_completes h⟩,
    fun h => ⟨fun hb harea => ?_, fun hb => ?_, _, writeReg_completes h⟩⟩
  · have hexec : exec (.div q rt ra rb) s = raiseException 241 s := writeQuotient_zero h hb
    rw [hexec]
    exact raiseException_raises harea
  · exact writeQuotient_completes_or_overflows h hb
  · have hexec : exec (.divi q rt ra imm) s = raiseException 241 s := writeQuotient_zero h hb
    rw [hexec]
    exact raiseException_raises harea
  · exact writeQuotient_completes_or_overflows h hb

/-- Settles O29: `writeQuotient` at a nonzero divisor, and the word that DIVU and DIVUI write. -/
theorem divisionResults : Obligations.DivisionResults := by
  refine fun s q rt ra rb imm => ⟨fun h hb => ⟨writeQuotient_nonzero h hb, ?_⟩,
    fun h hb => ⟨writeQuotient_nonzero h hb, ?_⟩, fun h _ => ⟨_, writeReg_completes h⟩,
    fun h _ => ⟨_, writeReg_completes h⟩⟩
  · exact completesReg_of_eq_writeReg h (unsignedQuotient_nonzero s _ hb).symm rfl
  · exact completesReg_of_eq_writeReg h (unsignedQuotient_nonzero s _ hb).symm rfl

/-! ### Immediate forms -/

theorem ofInt_toInt_add {w : Nat} (a b : BitVec w) : BitVec.ofInt w (a.toInt + b.toInt) = a + b := by
  rw [BitVec.ofInt_add, BitVec.ofInt_toInt, BitVec.ofInt_toInt]

theorem ofInt_toInt_sub {w : Nat} (a b : BitVec w) : BitVec.ofInt w (a.toInt - b.toInt) = a - b := by
  rw [Int.sub_eq_add_neg, BitVec.ofInt_add, BitVec.ofInt_neg, BitVec.ofInt_toInt, BitVec.ofInt_toInt,
    BitVec.sub_eq_add_neg]

theorem ofInt_toInt_mul {w : Nat} (a b : BitVec w) : BitVec.ofInt w (a.toInt * b.toInt) = a * b := by
  rw [BitVec.ofInt_mul, BitVec.ofInt_toInt, BitVec.ofInt_toInt]

/-- The scaled immediate adds (R272 to R275), for any factor. -/
theorem ofInt_toInt_mul_add {w : Nat} (a b : BitVec w) (n : Int) :
    BitVec.ofInt w (a.toInt * n + b.toInt) = a * BitVec.ofInt w n + b := by
  rw [BitVec.ofInt_add, BitVec.ofInt_mul, BitVec.ofInt_toInt, BitVec.ofInt_toInt]

theorem ofInt_min_toInt {w : Nat} (a b : BitVec w) :
    BitVec.ofInt w (min a.toInt b.toInt) = if a.slt b then a else b := by
  simp only [BitVec.slt_iff_toInt_lt]
  split
  · rw [min_eq_left (by omega), BitVec.ofInt_toInt]
  · rw [min_eq_right (by omega), BitVec.ofInt_toInt]

theorem ofInt_max_toInt {w : Nat} (a b : BitVec w) :
    BitVec.ofInt w (max a.toInt b.toInt) = if a.slt b then b else a := by
  simp only [BitVec.slt_iff_toInt_lt]
  split
  · rw [max_eq_right (by omega), BitVec.ofInt_toInt]
  · rw [max_eq_left (by omega), BitVec.ofInt_toInt]

/-- Settles O31: each instruction is one `writeReg`, of a word operation that is the stated result modulo 2^64. -/
theorem immediateArithmetic : Obligations.ImmediateArithmetic := by
  refine ⟨fun s q rt ra imm h => ⟨?addui, ?subui, ?mului, ?addui2, ?addui4, ?addui8, ?addui16⟩,
    fun s q rt ra rb h => ⟨?mulu, ?min, ?max⟩, fun s q rt imm h => ⟨?adduiShort, ?ldi⟩⟩
  case addui => exact completesReg_of_eq_writeReg h (ofInt_toInt_add ..) rfl
  case subui => exact completesReg_of_eq_writeReg h (ofInt_toInt_sub ..) rfl
  case mului => exact completesReg_of_eq_writeReg h (ofInt_toInt_mul ..) rfl
  case addui2 | addui4 | addui8 | addui16 => exact completesReg_of_eq_writeReg h (ofInt_toInt_mul_add ..) rfl
  case mulu => exact completesReg_of_eq_writeReg h (BitVec.mul_def ..).symm rfl
  case min => exact completesReg_of_eq_writeReg h (ofInt_min_toInt ..) rfl
  case max => exact completesReg_of_eq_writeReg h (ofInt_max_toInt ..) rfl
  case adduiShort => exact completesReg_of_eq_writeReg h (ofInt_toInt_add ..) rfl
  case ldi => exact completesReg_of_eq_writeReg h rfl rfl

/-! ### BCD -/

theorem bcdDigits_of_lt_hundred {n : Nat} (h : n < 100) :
    bcdDigits n = BitVec.ofNat 64 (16 * (n / 10) + n % 10) := by
  rw [bcdDigits]
  congr 1
  omega

theorem bcdDigits_of_lt_ten_thousand {n : Nat} (h : n < 10000) :
    bcdDigits n = BitVec.ofNat 64 (4096 * (n / 1000) + 256 * (n / 100 % 10) + 16 * (n / 10 % 10) + n % 10) := by
  rw [bcdDigits]
  congr 1
  omega

theorem bcdResult_valid {s : State} {a b : Word} {n : Nat} (ha : a.toNat % 16 ≤ 9 ∧ a.toNat / 16 % 16 ≤ 9)
    (hb : b.toNat % 16 ≤ 9 ∧ b.toNat / 16 % 16 ≤ 9) : bcdResult s a b n = bcdDigits n := by
  simp [bcdResult, bcdValid, ha, hb]

theorem bcdValue_le {v : Word} (h : v.toNat % 16 ≤ 9 ∧ v.toNat / 16 % 16 ≤ 9) : bcdValue v ≤ 99 := by
  rw [bcdValue]
  omega

/-- Settles O32: each instruction is one `writeReg`; the digits of a number below 100, or below 10000, are the stated
ones, and each listed row of CPUID is the model's. -/
theorem bcdAndCpuid : Obligations.BcdAndCpuid := by
  refine ⟨fun s q rt ra rb h => ⟨fun ha ha' hb hb' => ⟨?add, ?sub, ?mul⟩, ⟨_, writeReg_completes h⟩,
    ⟨_, writeReg_completes h⟩, ⟨_, writeReg_completes h⟩⟩, fun s q rt ra h => ?cpuid⟩
  case add =>
    refine completesReg_of_eq_writeReg h ?_ rfl
    rw [bcdResult_valid ⟨ha, ha'⟩ ⟨hb, hb'⟩, bcdDigits_of_lt_hundred (Nat.mod_lt _ (by decide))]
    rfl
  case sub =>
    refine completesReg_of_eq_writeReg h ?_ rfl
    have hy := bcdValue_le ⟨hb, hb'⟩
    rw [bcdResult_valid ⟨ha, ha'⟩ ⟨hb, hb'⟩, bcdDigits_of_lt_hundred (Nat.mod_lt _ (by decide)),
      ← Nat.add_sub_assoc (by omega), Nat.add_comm (bcdValue (s.reg ra)) 100]
    rfl
  case mul =>
    refine completesReg_of_eq_writeReg h ?_ rfl
    have hxy : bcdValue (s.reg ra) * bcdValue (s.reg rb) ≤ 99 * 99 :=
      Nat.mul_le_mul (bcdValue_le ⟨ha, ha'⟩) (bcdValue_le ⟨hb, hb'⟩)
    rw [bcdResult_valid ⟨ha, ha'⟩ ⟨hb, hb'⟩, bcdDigits_of_lt_ten_thousand (by omega)]
    rfl
  case cpuid =>
    refine ⟨cpuidRow s (s.reg ra), writeReg_completes h, fun hr => ?_, fun hr => ?_, fun hr => ?_, fun hr => ?_,
      fun hr => ?_, fun hr => ?_, fun hr => ?_, fun hr => ?_, fun hr => ?_⟩
    case refine_3 => obtain hr | hr | hr := hr <;> rw [hr] <;> rfl
    all_goals rw [hr]; rfl

end Sys2Proof.Machine
end

section
/-! PROOFS for 43_logic_shift_bitfield.md: immediate logic, MLO, shifts, rotates and bit fields (R302, R305, R308, R312,
R320 to R332, R350 to R357). -/

namespace Sys2Proof.Machine

/-! ### MLO -/

/-- The operations that the codes 0 to 7 name, bit by bit (R312). -/
theorem mloResult_of_le {f : Word} (a b : Word) (hf : f.toNat ≤ 7) :
    ∃ v, mloResult f a b = some v ∧ ∀ j, j < 64 → v.getLsbD j =
      let x := a.getLsbD j
      let y := b.getLsbD j
      [x && y, x || y, x ^^ y, !(x && y), !(x || y), !(x ^^ y), x && !y, x || !y].getD f.toNat false := by
  unfold mloResult
  split
  case h_9 => grind
  case h_1 hcode => exact ⟨_, rfl, fun j _ => by rw [hcode, BitVec.getLsbD_and]; rfl⟩
  case h_2 hcode => exact ⟨_, rfl, fun j _ => by rw [hcode, BitVec.getLsbD_or]; rfl⟩
  case h_3 hcode => exact ⟨_, rfl, fun j _ => by rw [hcode, BitVec.getLsbD_xor]; rfl⟩
  case h_4 hcode => exact ⟨_, rfl, fun j hj => by rw [hcode, getLsbD_not_of_lt _ hj, BitVec.getLsbD_and]; rfl⟩
  case h_5 hcode => exact ⟨_, rfl, fun j hj => by rw [hcode, getLsbD_not_of_lt _ hj, BitVec.getLsbD_or]; rfl⟩
  case h_6 hcode => exact ⟨_, rfl, fun j hj => by rw [hcode, getLsbD_not_of_lt _ hj, BitVec.getLsbD_xor]; rfl⟩
  case h_7 hcode => exact ⟨_, rfl, fun j hj => by rw [hcode, BitVec.getLsbD_and, getLsbD_not_of_lt _ hj]; rfl⟩
  case h_8 hcode => exact ⟨_, rfl, fun j hj => by rw [hcode, BitVec.getLsbD_or, getLsbD_not_of_lt _ hj]; rfl⟩

theorem mloResult_of_gt {f : Word} (a b : Word) (hf : 7 < f.toNat) : mloResult f a b = none := by
  unfold mloResult
  split
  case h_9 => rfl
  all_goals omega

/-- Settles O34: the immediate forms are one `writeReg` of a bitwise word operation, MLO the one that its code names. -/
theorem logicImmediatesAndMlo : Obligations.LogicImmediatesAndMlo := by
  refine ⟨fun s q rt ra imm h => ⟨?andi, ?ori, ?eori⟩, fun s q rt ra rb rc h => ⟨fun hf => ?mlo, fun hf => ?refused⟩⟩
  case andi => exact completesBits_of_eq_writeReg h rfl fun j _ => BitVec.getLsbD_and
  case ori => exact completesBits_of_eq_writeReg h rfl fun j _ => BitVec.getLsbD_or
  case eori => exact completesBits_of_eq_writeReg h rfl fun j _ => BitVec.getLsbD_xor
  case mlo =>
    obtain ⟨v, hv, hbits⟩ := mloResult_of_le (s.reg ra) (s.reg rb) hf
    refine ⟨v, ?_, hbits⟩
    show completesReg (execMlo q rt ra rb rc s) s 5 rt v
    rw [execMlo, guarded_executes h, hv]
    exact finishReg_completes s 5 rt v
  case refused =>
    show execMlo q rt ra rb rc s = _
    rw [execMlo, guarded_executes h, mloResult_of_gt _ _ hf]

/-! ### Shifts and rotates -/

theorem shiftCount_eq (v : Word) : shiftCount v = v.toNat % 64 := by
  rw [shiftCount, BitVec.toNat_setWidth]

theorem ofNat_toNat_mul_two_pow {w : Nat} (a : BitVec w) (n : Nat) : BitVec.ofNat w (a.toNat * 2 ^ n) = a <<< n := by
  apply BitVec.eq_of_toNat_eq
  rw [BitVec.toNat_ofNat, BitVec.toNat_shiftLeft, Nat.shiftLeft_eq]

theorem ofNat_toNat_div_two_pow {w : Nat} (a : BitVec w) (n : Nat) : BitVec.ofNat w (a.toNat / 2 ^ n) = a >>> n := by
  apply BitVec.eq_of_toNat_eq
  rw [BitVec.toNat_ofNat, BitVec.toNat_ushiftRight, Nat.shiftRight_eq_div_pow,
    Nat.mod_eq_of_lt (Nat.lt_of_le_of_lt (Nat.div_le_self _ _) a.isLt)]

/-- The signed value rounded down (R325). -/
theorem ofInt_toInt_div_two_pow {w : Nat} (a : BitVec w) (n : Nat) :
    BitVec.ofInt w (a.toInt / 2 ^ n) = a.sshiftRight n := by
  rw [BitVec.sshiftRight, Int.shiftRight_eq_div_pow, Int.natCast_pow]
  rfl

theorem getLsbD_rotateLeft_word (a : Word) {n j : Nat} (hn : n < 64) (hj : j < 64) :
    (a.rotateLeft n).getLsbD j = a.getLsbD ((j + (64 - n)) % 64) := by
  rw [BitVec.getLsbD_rotateLeft, Nat.mod_eq_of_lt hn]
  by_cases hlow : j < n
  · rw [decide_eq_true hlow, cond_true, Nat.mod_eq_of_lt (by omega), Nat.add_comm]
  · have hmod : (j + (64 - n)) % 64 = j - n := by omega
    rw [decide_eq_false hlow, cond_false, decide_eq_true hj, Bool.true_and, hmod]

theorem getLsbD_rotateRight_word (a : Word) {n j : Nat} (hn : n < 64) (hj : j < 64) :
    (a.rotateRight n).getLsbD j = a.getLsbD ((j + n) % 64) := by
  rw [BitVec.getLsbD_rotateRight, Nat.mod_eq_of_lt hn]
  by_cases hlow : j < 64 - n
  · rw [decide_eq_true hlow, cond_true, Nat.mod_eq_of_lt (by omega), Nat.add_comm]
  · have hmod : (j + n) % 64 = j - (64 - n) := by omega
    rw [decide_eq_false hlow, cond_false, decide_eq_true hj, Bool.true_and, hmod]

/-- Settles O35: each instruction is one `writeReg` of a shift or a rotate, by the low six bits of Rb
or the constant. -/
theorem shiftsAndRotates : Obligations.ShiftsAndRotates := by
  refine ⟨fun s q rt ra rb h => ?registers, fun s q rt ra c h => ?constants⟩
  case registers =>
    rw [← shiftCount_eq (s.reg rb)]
    have hn : shiftCount (s.reg rb) < 64 := BitVec.isLt _
    refine ⟨?shl, ?shlu, ?shr, ?shru, ?rol, ?ror⟩
    case shl | shlu => exact completesReg_of_eq_writeReg h (ofNat_toNat_mul_two_pow ..) rfl
    case shr => exact completesReg_of_eq_writeReg h (ofInt_toInt_div_two_pow ..) rfl
    case shru => exact completesReg_of_eq_writeReg h (ofNat_toNat_div_two_pow ..) rfl
    case rol => exact completesBits_of_eq_writeReg h rfl fun j hj => getLsbD_rotateLeft_word _ hn hj
    case ror => exact completesBits_of_eq_writeReg h rfl fun j hj => getLsbD_rotateRight_word _ hn hj
  case constants =>
    refine ⟨?shl, ?shlu, ?shr, ?shru, ?rol, ?ror⟩
    case shl | shlu => exact completesReg_of_eq_writeReg h (ofNat_toNat_mul_two_pow ..) rfl
    case shr => exact completesReg_of_eq_writeReg h (ofInt_toInt_div_two_pow ..) rfl
    case shru => exact completesReg_of_eq_writeReg h (ofNat_toNat_div_two_pow ..) rfl
    case rol => exact completesBits_of_eq_writeReg h rfl fun j hj => getLsbD_rotateLeft_word _ c.isLt hj
    case ror => exact completesBits_of_eq_writeReg h rfl fun j hj => getLsbD_rotateRight_word _ c.isLt hj

/-! ### Bit fields -/

/-- The mask has exactly the bits of the field (R350). -/
theorem getLsbD_fieldMask {mb me : BitVec 6} (hle : mb.toNat ≤ me.toNat) {j : Nat} (hj : j < 64) :
    (fieldMask mb me).getLsbD j = decide (mb.toNat ≤ j ∧ j ≤ me.toNat) := by
  rw [fieldMask, BitVec.getLsbD_ofNat, decide_eq_true hj, Bool.true_and, Nat.testBit_mul_two_pow,
    Nat.testBit_two_pow_sub_one, Bool.decide_and]
  congr 1
  rw [fieldWidth, decide_eq_decide]
  omega

/-- A bit-field instruction with mb at or below me writes its word. -/
theorem writeField_completes {r : Result} {q : Pred} {named : List Reg} {rt : Reg} {mb me : BitVec 6} {v : Word}
    {f : Nat → Bool} {s : State} (h : s.Executes q named) (hle : mb.toNat ≤ me.toNat)
    (hr : r = writeField q named rt mb me v s) (hbits : ∀ j, j < 64 → v.getLsbD j = f j) :
    completesBits r s 6 rt f := by
  refine ⟨v, ?_, hbits⟩
  rw [hr, writeField, guarded_executes h, if_pos hle]
  exact finishReg_completes s 6 rt v

/-- A field put under a mask, as BFINS and BFINSI do (R351, R352). -/
theorem getLsbD_insert {mb me : BitVec 6} (hle : mb.toNat ≤ me.toNat) (old new : Word) {j : Nat} (hj : j < 64) :
    ((old &&& ~~~(fieldMask mb me)) ||| ((new <<< mb.toNat) &&& fieldMask mb me)).getLsbD j =
      if mb.toNat ≤ j ∧ j ≤ me.toNat then new.getLsbD (j - mb.toNat) else old.getLsbD j := by
  rw [BitVec.getLsbD_or, BitVec.getLsbD_and, BitVec.getLsbD_and, getLsbD_not_of_lt _ hj, getLsbD_fieldMask hle hj,
    BitVec.getLsbD_shiftLeft]
  by_cases hin : mb.toNat ≤ j ∧ j ≤ me.toNat
  · have hlow : ¬j < mb.toNat := by omega
    simp [hin, hlow, hj]
  · simp [hin]

/-- The field as BFEXT extracts it: its bits, then copies of its highest (R356). -/
theorem getLsbD_sext_field {mb me : BitVec 6} (hle : mb.toNat ≤ me.toNat) (a : Word) {j : Nat} (hj : j < 64) :
    (sext (a.extractLsb' mb.toNat (fieldWidth mb me))).getLsbD j = a.getLsbD (min (mb.toNat + j) me.toNat) := by
  have hmsb : (a.extractLsb' mb.toNat (fieldWidth mb me)).msb = a.getLsbD me.toNat := by
    have hlast : mb.toNat + (fieldWidth mb me - 1) = me.toNat := by rw [fieldWidth]; omega
    rw [BitVec.msb_eq_getLsbD_last, BitVec.getLsbD_extractLsb', hlast, decide_eq_true (by rw [fieldWidth]; omega),
      Bool.true_and]
  rw [sext, BitVec.getLsbD_signExtend, decide_eq_true hj, Bool.true_and, hmsb, BitVec.getLsbD_extractLsb']
  by_cases hin : j < fieldWidth mb me
  · rw [if_pos hin, decide_eq_true hin, Bool.true_and, Nat.min_eq_left (by rw [fieldWidth] at hin; omega)]
  · rw [if_neg hin, Nat.min_eq_right (by rw [fieldWidth] at hin; omega)]

/-- The field as BFEXTU extracts it: its bits, then 0 (R357). -/
theorem getLsbD_zext_field {mb me : BitVec 6} (hle : mb.toNat ≤ me.toNat) (a : Word) {j : Nat} (hj : j < 64) :
    (zext (a.extractLsb' mb.toNat (fieldWidth mb me))).getLsbD j =
      if mb.toNat + j ≤ me.toNat then a.getLsbD (mb.toNat + j) else false := by
  rw [zext, BitVec.getLsbD_setWidth, decide_eq_true hj, Bool.true_and, BitVec.getLsbD_extractLsb']
  by_cases hin : j < fieldWidth mb me
  · rw [decide_eq_true hin, Bool.true_and, if_pos (by rw [fieldWidth] at hin; omega)]
  · rw [decide_eq_false hin, Bool.false_and, if_neg (by rw [fieldWidth] at hin; omega)]

/-- Settles O37: each instruction writes one word, whose bits inside the mask and outside it are the stated ones. -/
theorem bitFields : Obligations.BitFields := by
  refine ⟨fun s q rt ra mb me h hle => ⟨?bfins, ?bfset, ?bfclr, ?bfchg, ?bfext, ?bfextu⟩,
    fun s q rt imm mb me h hle => ?bfinsi⟩
  case bfins => exact writeField_completes h hle rfl fun j hj => getLsbD_insert hle _ _ hj
  case bfset =>
    refine writeField_completes h hle rfl fun j hj => ?_
    rw [BitVec.getLsbD_or, getLsbD_fieldMask hle hj]
    split <;> simp [*]
  case bfclr =>
    refine writeField_completes h hle rfl fun j hj => ?_
    rw [BitVec.getLsbD_and, getLsbD_not_of_lt _ hj, getLsbD_fieldMask hle hj]
    split <;> simp [*]
  case bfchg =>
    refine writeField_completes h hle rfl fun j hj => ?_
    rw [BitVec.getLsbD_xor, getLsbD_fieldMask hle hj]
    split <;> simp [*]
  case bfext => exact writeField_completes h hle rfl fun j hj => getLsbD_sext_field hle _ hj
  case bfextu => exact writeField_completes h hle rfl fun j hj => getLsbD_zext_field hle _ hj
  case bfinsi =>
    refine writeField_completes h hle rfl fun j hj => ?_
    rw [getLsbD_insert hle _ _ hj, zext, BitVec.getLsbD_setWidth, decide_eq_true (by omega), Bool.true_and]

end Sys2Proof.Machine
end

section
/-! PROOFS for 41_compare_predicate.md: the flags of the compares and the predicate logic (R221 to R238). -/

namespace Sys2Proof.Machine

/-! ### Compares -/

theorem getLsbD_predValue : ∀ eq lt ltu : Bool,
    (predValue eq lt ltu).getLsbD 0 = eq ∧ (predValue eq lt ltu).getLsbD 1 = lt ∧
      (predValue eq lt ltu).getLsbD 2 = ltu ∧ (predValue eq lt ltu).getLsbD 3 = false := by
  decide

/-- A compare is one `writePred`; its flags may be stated as any equal ones. -/
theorem completesFlags_of_eq_writePred {r : Result} {q : Pred} {len : Nat} {named : List Reg} {pt : PredReg}
    {eq lt ltu eq' lt' ltu' : Bool} {s : State} (h : s.Executes q named)
    (hr : r = writePred q len named pt (predValue eq lt ltu) s) (heq : eq = eq') (hlt : lt = lt') (hltu : ltu = ltu') :
    completesFlags r s len pt eq' lt' ltu' := by
  subst hr heq hlt hltu
  exact ⟨_, writePred_completes h, getLsbD_predValue eq lt ltu⟩

/-- Settles O38: each compare is one `writePred` of three flags. -/
theorem compareFlags_results : Obligations.CompareFlags := by
  refine ⟨fun s q pt ra rb h => ?cmp, fun s q pt ra imm mask h => ⟨?cmpi, ?tst, ?biti⟩⟩
  case cmp | cmpi => exact completesFlags_of_eq_writePred h rfl rfl rfl rfl
  case tst => exact completesFlags_of_eq_writePred h rfl rfl rfl rfl
  case biti =>
    refine completesFlags_of_eq_writePred h rfl rfl ?_ BitVec.getLsbD_and
    rw [BitVec.msb_and, BitVec.msb_eq_getLsbD_last, BitVec.msb_eq_getLsbD_last]

/-! ### Predicate logic -/

theorem getLsbD_withBit : ∀ (p : BitVec 4) (i j : Fin 4) (v : Bool),
    (withBit p i v).getLsbD j = if j = i then v else p.getLsbD j := by
  decide +kernel

theorem getLsbD_withBit_mod (p : BitVec 4) (i j : Nat) (v : Bool) :
    (withBit p (i % 4) v).getLsbD (j % 4) = if j % 4 = i % 4 then v else p.getLsbD (j % 4) := by
  have hbit := getLsbD_withBit p ⟨i % 4, Nat.mod_lt _ (by decide)⟩ ⟨j % 4, Nat.mod_lt _ (by decide)⟩ v
  simpa only [Fin.mk.injEq] using hbit

/-- The register of a predicate bit (R229). -/
theorem extractLsb'_predBit (b : PredBit) : b.extractLsb' 2 4 = BitVec.ofNat 4 (b.toNat / 4) := by
  apply BitVec.eq_of_toNat_eq
  rw [BitVec.extractLsb'_toNat, BitVec.toNat_ofNat, Nat.shiftRight_eq_div_pow]

/-- A predicate bit is known by its register and its flag. -/
theorem predBit_ext {b c : PredBit} (hreg : b.extractLsb' 2 4 = c.extractLsb' 2 4)
    (hflag : b.toNat % 4 = c.toNat % 4) : b = c := by
  have hb := b.isLt
  have hc := c.isLt
  have hdiv := congrArg BitVec.toNat hreg
  simp only [extractLsb'_predBit, BitVec.toNat_ofNat] at hdiv
  exact BitVec.eq_of_toNat_eq (by omega)

/-- What each predicate bit reads after one is written (R229). -/
theorem predBit_setPredBit (s : State) (b c : PredBit) (v : Bool) :
    (s.setPredBit b v).predBit c = if c = b then v else s.predBit c := by
  rw [State.predBit, State.setPredBit]
  by_cases hreg : c.extractLsb' 2 4 = b.extractLsb' 2 4
  · rw [hreg, State.pred_setPred_same, getLsbD_withBit_mod]
    by_cases hflag : c.toNat % 4 = b.toNat % 4
    · rw [if_pos hflag, if_pos (predBit_ext hreg hflag)]
    · rw [if_neg hflag, if_neg fun h => hflag (by rw [h]), State.predBit, hreg]
  · rw [State.pred_setPred_other _ _ _ _ hreg, if_neg fun h => hreg (by rw [h])]
    rfl

theorem writePredBit_completes {q : Pred} {bt : PredBit} {v : Bool} {s : State} (h : s.holds q = true) :
    completesBit (writePredBit q bt v s) s bt v := by
  rw [writePredBit, guarded_executes (executes_nil h)]
  have hbit := fun c => predBit_setPredBit s bt c v
  refine ⟨_, rfl, ?_, fun b hb => ?_, rfl, fun _ => rfl, rfl⟩
  · exact (hbit bt).trans (if_pos rfl)
  · exact (hbit b).trans (if_neg hb)

/-- Settles O39: each instruction is one `writePredBit`. -/
theorem predicateLogic : Obligations.PredicateLogic := by
  refine ⟨fun s q bt ba bb h => ?_, fun s b => ?_⟩
  · exact ⟨writePredBit_completes h, writePredBit_completes h, writePredBit_completes h, writePredBit_completes h,
      writePredBit_completes h, writePredBit_completes h, writePredBit_completes h, writePredBit_completes h⟩
  · rw [State.predBit, extractLsb'_predBit]

end Sys2Proof.Machine
end

section
/-! PROOFS for 20_memory.md: what a load finds, address formation and translation (R82 to R89, R101 to R103, R107, R120;
70_reset_and_hazards.md R632). -/

namespace Sys2Proof.Machine

/-! ### The bits of a loaded word (R82) -/

/-- Bit `i` of a datum lies in its byte `i / 8`, and is 0 above the last byte. -/
theorem getLsbD_wordOfLittle (bs : List Byte) {i : Nat} (hi : i < 64) :
    (wordOfLittle bs).getLsbD i = (bs.getD (i / 8) 0).getLsbD (i % 8) := by
  induction bs generalizing i with
  | nil => simp [wordOfLittle]
  | cons b bs ih =>
    rw [wordOfLittle, BitVec.getLsbD_or, zext, BitVec.getLsbD_setWidth, BitVec.getLsbD_shiftLeft, decide_eq_true hi,
      Bool.true_and, Bool.true_and]
    by_cases hlow : i < 8
    · rw [decide_eq_true hlow, Nat.div_eq_of_lt hlow, Nat.mod_eq_of_lt hlow]
      simp
    · have hdiv : i / 8 = (i - 8) / 8 + 1 := by omega
      have hmod : i % 8 = (i - 8) % 8 := by omega
      rw [BitVec.getLsbD_of_ge b i (by omega), decide_eq_false hlow, Bool.false_or, Bool.not_false, Bool.true_and,
        ih (by omega), hdiv, hmod, List.getD_cons_succ]

theorem getD_readBytes (s : State) (slot a : Nat) (n k : Nat) :
    (s.readBytes slot a n).getD k 0 = if k < n then s.readByte slot (a + k) else 0 := by
  induction n generalizing a k with
  | zero => simp [State.readBytes]
  | succ n ih =>
    cases k with
    | zero => simp [State.readBytes]
    | succ k =>
      rw [State.readBytes, List.getD_cons_succ, ih, Nat.add_right_comm, Nat.add_assoc]
      simp only [Nat.add_lt_add_iff_right]

theorem getLsbD_loadValue (s : State) (slot : Nat) (p : Phys) (n : Nat) {i : Nat} (hi : i < 64) :
    (s.loadValue slot p n).getLsbD i =
      (if i / 8 < n then (s.readByte slot (p.pa.toNat + i / 8)).getLsbD (i % 8) else false) := by
  have hbyte := getD_readBytes s slot p.pa.toNat n (i / 8)
  show (wordOfLittle _).getLsbD i = _
  rw [getLsbD_wordOfLittle _ hi, hbyte]
  split
  · rfl
  · exact BitVec.getLsbD_zero

/-- A loaded value has no bit above its bytes. -/
theorem loadValue_toNat_lt (s : State) (slot : Nat) (p : Phys) (n : Nat) :
    (s.loadValue slot p n).toNat < 2 ^ (8 * n) := by
  apply Nat.lt_pow_two_of_testBit
  intro i hi
  rw [BitVec.testBit_toNat]
  by_cases hlt : i < 64
  · rw [getLsbD_loadValue s slot p n hlt, if_neg (by omega)]
  · exact BitVec.getLsbD_of_ge _ i (by omega)

theorem readByte_memory {s : State} {slot a : Nat} (h : s.isDevice a = false) : s.readByte slot a = s.mem.read a := by
  rw [State.readByte, h, if_neg Bool.false_ne_true]

theorem isDevice_storeValue (s : State) (p : Phys) (n : Nat) (v : Word) (a : Nat) :
    (s.storeValue p n v).isDevice a = s.isDevice a := by
  rw [State.isDevice, State.isDevice, State.storeValue_platform]

/-- What was stored is what is loaded (R107). -/
theorem loadValue_storeValue (s : State) (p : Phys) (n slot : Nat) (v : Word)
    (hdev : ∀ k, k < n → s.isDevice (p.pa.toNat + k) = false) (hwf : s.mem.wf = true) :
    (s.storeValue p n v).loadValue slot p n = BitVec.ofNat 64 (v.toNat % 2 ^ (8 * n)) := by
  apply BitVec.eq_of_getLsbD_eq
  intro i hi
  rw [getLsbD_loadValue _ _ _ _ hi, BitVec.getLsbD_ofNat, decide_eq_true hi, Bool.true_and, Nat.testBit_mod_two_pow]
  by_cases hin : i / 8 < n
  · have hd := hdev _ hin
    have hbit : 8 * (i / 8) + i % 8 = i := Nat.div_add_mod i 8
    rw [if_pos hin, readByte_memory (by rwa [isDevice_storeValue]), s.read_storeValue_inside p n v _ hwf hin hd,
      BitVec.getLsbD_setWidth, BitVec.getLsbD_ushiftRight, hbit, decide_eq_true (Nat.mod_lt _ (by decide)),
      Bool.true_and, decide_eq_true (by omega), Bool.true_and]
    rfl
  · rw [if_neg hin, decide_eq_false (by omega), Bool.false_and]

/-- Settles O20: the bits of the loaded word are those of its bytes, and the bytes those that the store left. -/
theorem storeThenLoad : Obligations.StoreThenLoad := by
  refine fun s p n slot v hn hdev => ⟨fun hwf => ⟨?stored, fun a ha => ?outside⟩, fun k j hk hj => ?bits,
    loadValue_toNat_lt s slot p n⟩
  case stored => exact loadValue_storeValue s p n slot v hdev hwf
  case outside => exact s.read_storeValue_outside p n v a hwf ha
  case bits =>
    have hdiv : (8 * k + j) / 8 = k := by omega
    have hmod : (8 * k + j) % 8 = j := by omega
    rw [getLsbD_loadValue s slot p n (by omega), hdiv, hmod, if_pos hk, readByte_memory (hdev k hk)]

/-! ### Segmented addresses -/

theorem toNat_addSegment (base off : Word) :
    (addSegment base off).toNat = (off.toNat + base.toNat / 4096 * 4096) % 2 ^ 64 := by
  have hbase := base.isLt
  have hpage : (base.extractLsb' 12 52 ++ 0#12).toNat = base.toNat / 4096 * 4096 := by
    rw [BitVec.toNat_append, BitVec.extractLsb'_toNat, Nat.shiftRight_eq_div_pow, BitVec.toNat_ofNat, Nat.zero_mod,
      Nat.or_zero, Nat.shiftLeft_eq, Nat.mod_eq_of_lt (by omega)]
  rw [addSegment, BitVec.toNat_add, hpage]

theorem limitFault_iff (limit off : Word) : limitFault limit off = true ↔ limit.toNat / 4096 ≤ off.toNat / 4096 := by
  have hlimit := limit.isLt
  have hoff := off.isLt
  rw [limitFault, decide_eq_true_iff, BitVec.le_def, BitVec.extractLsb'_toNat, BitVec.extractLsb'_toNat,
    Nat.shiftRight_eq_div_pow, Nat.shiftRight_eq_div_pow, Nat.mod_eq_of_lt (by omega), Nat.mod_eq_of_lt (by omega)]

/-- The non-segmented area is the top sixteenth of the address space (R85). -/
theorem nonSegmented_iff (a : Word) : nonSegmented a = true ↔ 0xF000000000000000 ≤ a.toNat := by
  have ha := a.isLt
  rw [nonSegmented, beq_iff_eq, ← BitVec.toNat_inj, BitVec.extractLsb'_toNat, Nat.shiftRight_eq_div_pow,
    BitVec.toNat_ofNat]
  omega

theorem oldOrNew_eq_or {α : Type} [DecidableEq α] (seesNew : Bool) (old new : α) :
    oldOrNew seesNew old new = new ∨ oldOrNew seesNew old new = old := by
  unfold oldOrNew
  split_ifs
  · exact .inl rfl
  · exact .inl rfl
  · exact .inr rfl

/-- Settles O22: each function of the address read as arithmetic on numbers. -/
theorem segmentedAddress : Obligations.SegmentedAddress := by
  refine ⟨toNat_addSegment, limitFault_iff, fun s slot a => ?_, fun s slot sg => ⟨oldOrNew_eq_or .., oldOrNew_eq_or ..⟩,
    by decide, by decide⟩
  rw [State.fetchVa]
  simp only [nonSegmented_iff]

/-! ### Translation -/

/-- The entry of way `w` in the set of the address (R102). -/
def setSlot (s : State) (va : Word) (w : Nat) : BitVec 6 := tlbSlot (BitVec.ofNat 3 w) (tlbSet s.tlb.pageSize va)

theorem toNat_setSlot (s : State) (va : Word) {w : Nat} (hw : w < 8) :
    (setSlot s va w).toNat = 8 * w + va.toNat / 2 ^ (12 + 2 * s.tlb.pageSize.toNat) % 8 := by
  rw [setSlot, tlbSlot, tlbSet, pageShift, BitVec.toNat_append, BitVec.toNat_ofNat, BitVec.toNat_ofNat,
    ← Nat.shiftLeft_add_eq_or_of_lt (Nat.mod_lt _ (by decide)), Nat.shiftLeft_eq,
      Nat.mod_eq_of_lt (show w < 2 ^ 3 from hw),
    Nat.mul_comm]

theorem setSlot_eq_ofNat (s : State) (va : Word) {w : Nat} (hw : w < 8) : setSlot s va w =
    BitVec.ofNat 6 (8 * w + va.toNat / 2 ^ (12 + 2 * s.tlb.pageSize.toNat) % 8) := by
  rw [← toNat_setSlot s va hw, BitVec.ofNat_toNat, BitVec.setWidth_eq]

/-- The ways of the set that match, as the lookup finds them. -/
def matchingWays (s : State) (va : Word) : List Nat :=
  (List.range 8).filter fun w => entryMatches (s.tlbEntry (setSlot s va w)) s.tlb.pageSize s.asid va

theorem tlbHits_eq_map (s : State) (va : Word) : s.tlbHits va = (matchingWays s va).map (setSlot s va) :=
  List.filter_map

theorem mem_matchingWays {s : State} {va : Word} {w : Nat} : w ∈ matchingWays s va ↔
    w < 8 ∧ entryMatches (s.tlbEntry (setSlot s va w)) s.tlb.pageSize s.asid va = true := by
  rw [matchingWays, List.mem_filter, List.mem_range]

theorem matchingWays_eq_singleton {s : State} {va : Word} {w : Nat} (hw : w ∈ matchingWays s va)
    (hother : ∀ w', w' ∈ matchingWays s va → w' = w) : matchingWays s va = [w] := by
  have hnodup : (matchingWays s va).Nodup := List.nodup_range.filter _
  refine List.perm_singleton.mp ((List.perm_ext_iff_of_nodup hnodup (List.nodup_singleton w)).mpr fun w' => ?_)
  rw [List.mem_singleton]
  exact ⟨hother w', fun h => h ▸ hw⟩

/-- The answer of a translation from the entries that match (R102); `translate_on` ties it to the lookup. -/
def translationOfSlots (s : State) (va : Word) : List (BitVec 6) → Translation
  | [] => .miss
  | [i] => .hit { pa := physicalOf (s.tlbEntry i) s.tlb.pageSize va, entry := some i }
  | _ => .multiple

section
variable {s : State} {va : Word} (hon : s.tlb.enabled = true) (hsize : s.tlb.pageSize.toNat < 5)
include hon hsize

theorem translate_on : s.translate va = translationOfSlots s va ((matchingWays s va).map (setSlot s va)) := by
  rw [State.translate, if_pos hon, if_neg (Nat.not_le.mpr hsize), tlbHits_eq_map]
  rfl

theorem translate_eq_miss_of_set (hno : matchingWays s va = []) : s.translate va = .miss := by
  rw [translate_on hon hsize, hno]
  rfl

theorem translate_eq_hit {w : Nat} (hone : matchingWays s va = [w]) : s.translate va =
    .hit { pa := physicalOf (s.tlbEntry (setSlot s va w)) s.tlb.pageSize va, entry := some (setSlot s va w) } := by
  rw [translate_on hon hsize, hone]
  rfl

theorem translate_eq_multiple {w w' : Nat} (hne : w ≠ w') (hw : w ∈ matchingWays s va)
    (hw' : w' ∈ matchingWays s va) : s.translate va = .multiple := by
  rw [translate_on hon hsize]
  cases hways : matchingWays s va with
  | nil => rw [hways] at hw; cases hw
  | cons a rest =>
    cases rest with
    | nil =>
      rw [hways, List.mem_singleton] at hw hw'
      exact absurd (hw.trans hw'.symm) hne
    | cons b rest => rfl

end

/-- Settles O23: the hits of the lookup are the matching ways of the address's set, and their number decides. -/
theorem tlbLookup : Obligations.TlbLookup := by
  intro s va n entry matching
  have hentry : ∀ w, w < 8 → s.tlbEntry (setSlot s va w) = entry w := fun w hw => by
    have hslot := toNat_setSlot s va hw
    have hmod : (8 * w + va.toNat / 2 ^ (12 + 2 * n) % 8) % 64 = 8 * w + va.toNat / 2 ^ (12 + 2 * n) % 8 := by omega
    simp only [State.tlbEntry, entry, hslot, hmod]
    rfl
  have hmatching : ∀ w, w < 8 → (w ∈ matchingWays s va ↔ matching w) := fun w hw => by
    rw [mem_matchingWays, hentry w hw, entryMatches, Bool.and_eq_true, Bool.and_eq_true, Bool.or_eq_true, beq_iff_eq,
      beq_iff_eq, and_iff_right hw, and_assoc]
    rfl
  refine ⟨fun hoff => translate_of_tlb_disabled hoff va, fun hon hsize => ?undefined, fun hon hsize =>
    ⟨fun hno => ?miss, fun w hw hm hother => ?hit, fun w w' hw hw' hne hm hm' => ?multiple⟩⟩
  case undefined => rw [State.translate, if_pos hon, if_pos hsize]
  case miss =>
    refine translate_eq_miss_of_set hon hsize (List.eq_nil_iff_forall_not_mem.mpr fun w hw => ?_)
    have hlt := (mem_matchingWays.mp hw).1
    exact hno w hlt ((hmatching w hlt).mp hw)
  case hit =>
    have hone : matchingWays s va = [w] := matchingWays_eq_singleton ((hmatching w hw).mpr hm) fun w' hw' => by
      have hlt := (mem_matchingWays.mp hw').1
      by_contra hne
      exact hother w' hlt hne ((hmatching w' hlt).mp hw')
    rw [translate_eq_hit hon hsize hone, hentry w hw, setSlot_eq_ofNat s va hw]
    rfl
  case multiple =>
    exact translate_eq_multiple hon hsize hne ((hmatching w hw).mpr hm) ((hmatching w' hw').mpr hm')

end Sys2Proof.Machine
end

section
/-! PROOFS for 40_control_transfer.md: branches, jumps and returns (R181 to R201; 10_state.md R31). -/

namespace Sys2Proof.Machine

/-! ### The low half of the program counter (R31) -/

theorem toNat_addLow (a d : Word) :
    (addLow a d).toNat = a.toNat / 2 ^ 32 * 2 ^ 32 + (a.toNat + d.toNat) % 2 ^ 32 := by
  have ha := a.isLt
  rw [addLow, BitVec.toNat_append, ← Nat.shiftLeft_add_eq_or_of_lt (BitVec.isLt _), BitVec.extractLsb'_toNat,
    BitVec.toNat_add, BitVec.toNat_setWidth, BitVec.toNat_setWidth, Nat.shiftRight_eq_div_pow, Nat.shiftLeft_eq]
  omega

/-- The model's addition is the rule's, for any number congruent to the displacement modulo 2^32. -/
theorem addLow_eq_lowAdd (a d : Word) {z : Int} (hz : z % 2 ^ 32 = (d.toNat : Int) % 2 ^ 32) :
    addLow a d = lowAdd a z := by
  have ha := a.isLt
  apply BitVec.eq_of_toNat_eq
  rw [toNat_addLow, lowAdd, BitVec.toNat_ofNat]
  omega

theorem addLow_sext {w : Nat} (a : Word) (d : BitVec w) (hw : w ≤ 64) : addLow a (sext d) = lowAdd a d.toInt := by
  have hint : d.toInt = (sext d).toInt := (BitVec.toInt_signExtend_of_le hw).symm
  apply addLow_eq_lowAdd
  rw [hint, BitVec.toInt_eq_toNat_cond]
  split <;> omega

theorem seq_eq_lowAdd (a : Word) (n : Nat) : seq a n = lowAdd a n := by
  apply addLow_eq_lowAdd
  rw [BitVec.toNat_ofNat]
  omega

/-! ### BR and LOOP -/

theorem exec_br_eq {s : State} {q : Pred} (h : s.holds q = true) (d : BitVec 12) :
    exec (.br q d) s = .next (s.setPc (addLow (s.npc 3) (sext d))) := by
  show execBr q d s = _
  rw [execBr, guarded_executes (executes_nil h)]

theorem exec_loop_counts {s : State} {q : Pred} (h : s.holds q = true) (hlc : s.lc ≠ 0) (d : BitVec 8) :
    exec (.loop q d) s = .next { s with lc := s.lc - 1, pc := addLow (s.npc 3) (sext d) } := by
  show execLoop q d s = _
  rw [execLoop, guarded_executes (executes_nil h), if_pos hlc]

theorem exec_loop_ends {s : State} {q : Pred} (h : s.holds q = true) (hlc : s.lc = 0) (d : BitVec 8) :
    exec (.loop q d) s = .next (s.setPc (s.npc 3)) := by
  show execLoop q d s = _
  rw [execLoop, guarded_executes (executes_nil h), if_neg (not_not.mpr hlc)]
  rfl

/-- Settles O40: BR and a counting LOOP go to `addLow`, which is the rule's sum. -/
theorem branchesAndLoop : Obligations.BranchesAndLoop := by
  refine ⟨fun s q d h => ?br, fun s q d h => ⟨fun hlc => ?counts, fun hlc => ?ends⟩,
    fun s len => ⟨fun hp => ?plain, fun p hp => ?prefixed⟩⟩
  case br =>
    rw [exec_br_eq h, addLow_sext _ _ (by decide)]
    exact setPc_completes s _
  case counts => exact ⟨_, exec_loop_counts h hlc d, addLow_sext _ _ (by decide), rfl, fun _ => rfl, rfl⟩
  case ends =>
    rw [exec_loop_ends h hlc]
    exact setPc_completes s _
  case plain =>
    rw [State.npc, State.prefixBytes, hp, seq_eq_lowAdd, Nat.zero_add]
  case prefixed =>
    rw [State.npc, State.prefixBytes, hp, seq_eq_lowAdd]

/-! ### Jumps and returns -/

theorem jumpAndLink_completes {q : Pred} {len : Nat} {crt cr : CodeReg} {off : Word} {s : State}
    (h : s.holds q = true) :
    completesJump (guarded q len [] s fun npc => jumpAndLink crt cr off npc s) s crt (s.npc len)
      (s.codeReg (s.npc len) cr + off) := by
  rw [guarded_executes (executes_nil h)]
  exact setCodeReg_jumps s crt (s.npc len) _

theorem exec_rts3_eq {s : State} {q : Pred} (h : s.holds q = true) (cr : CodeReg) (im4 : BitVec 4) :
    exec (.rts3 q cr im4) s = .next (s.setPc (s.codeReg (s.npc 3) cr + zext im4)) := by
  show execRts3 q cr im4 s = _
  rw [execRts3, guarded_executes (executes_nil h)]

theorem exec_rts4_eq {s : State} {q : Pred} (h : s.holds q = true) (cr : CodeReg) (im4 : BitVec 4) {adj : BitVec 8}
    (hadj : adj.toNat % 8 = 0) : exec (.rts4 q cr im4 adj) s =
      .next ((s.setReg 27 (s.reg 27 + zext adj)).setPc (s.codeReg (s.npc 4) cr + zext im4)) := by
  have haligned : adjustAligned adj = true := beq_iff_eq.mpr hadj
  show execRts4 q cr im4 adj s = _
  rw [execRts4, guarded_executes (executes_nil h), if_pos haligned]

/-- Settles O41: the three jumps are `jumpAndLink`, the returns go to the register read. -/
theorem jumpsAndReturns : Obligations.JumpsAndReturns := by
  refine ⟨fun s q crt cr o5 o6 h => ⟨?jsr3, jumpAndLink_completes h, jumpAndLink_completes h⟩,
    fun s q cr im4 adj h => ⟨?rts3, fun hadj => ?rts4⟩, fun s => setPc_completes s _, fun s n => ⟨rfl, rfl⟩⟩
  case jsr3 =>
    have hjump := jumpAndLink_completes (len := 3) (crt := crt) (cr := cr) (off := 0#64) h
    rwa [BitVec.add_zero] at hjump
  case rts3 =>
    rw [exec_rts3_eq h]
    exact setPc_completes s _
  case rts4 => exact ⟨_, exec_rts4_eq h cr im4 hadj, finishReg_writes s 27 _ _⟩

/-! ### Jumps through memory -/

/-- The upper bits of the address after the unit, with the 16 bits read below them (R200). -/
theorem charTarget_eq (npc : Word) {m : Word} (hm : m.toNat < 2 ^ 16) :
    charTarget npc m = BitVec.ofNat 64 (npc.toNat / 2 ^ 16 * 2 ^ 16 + m.toNat) := by
  have hnpc := npc.isLt
  apply BitVec.eq_of_toNat_eq
  rw [charTarget, BitVec.toNat_append, ← Nat.shiftLeft_add_eq_or_of_lt (BitVec.isLt _), BitVec.extractLsb'_toNat,
    BitVec.toNat_setWidth, Nat.shiftRight_eq_div_pow, Nat.shiftLeft_eq, BitVec.toNat_ofNat]
  omega

/-- The same with 32 bits (R200). -/
theorem halfTarget_eq (npc : Word) {m : Word} (hm : m.toNat < 2 ^ 32) :
    halfTarget npc m = BitVec.ofNat 64 (npc.toNat / 2 ^ 32 * 2 ^ 32 + m.toNat) := by
  have hnpc := npc.isLt
  apply BitVec.eq_of_toNat_eq
  rw [halfTarget, BitVec.toNat_append, ← Nat.shiftLeft_add_eq_or_of_lt (BitVec.isLt _), BitVec.extractLsb'_toNat,
    BitVec.toNat_setWidth, Nat.shiftRight_eq_div_pow, Nat.shiftLeft_eq, BitVec.toNat_ofNat]
  omega

theorem wordTarget_eq (npc m : Word) :
    wordTarget npc m = BitVec.ofNat 64 (npc.toNat / 2 ^ 64 * 2 ^ 64 + m.toNat) := by
  rw [Nat.div_eq_of_lt npc.isLt, Nat.zero_mul, Nat.zero_add, BitVec.ofNat_toNat, BitVec.setWidth_eq]
  rfl

/-- A jump through memory, its target stated as any equal word. -/
theorem completesJump_of_eq_jumpThrough {r : Result} {q : Pred} {named : List Reg} {sg : SegReg} {ct : CodeReg}
    {off : Word} {n : Nat} {target : Word → Word → Word} {result : Word} {s : State} {p : Phys}
    (h : s.Executes q named) (hr : s.Reaches .load 0 sg off n p)
    (ht : target (s.npc 5) (s.loadValue 0 p n) = result) (hjump : r = jumpThrough q named sg ct off n target s) :
    completesJump r s ct (s.npc 5) result := by
  rw [hjump, ← ht]
  exact jumpThrough_completes h hr

/-- Settles O42: each instruction is one `jumpThrough`, its target the upper bits of `npc` with the loaded value. -/
theorem indirectJumps : Obligations.IndirectJumps := by
  have hchar := fun (s : State) p => charTarget_eq (s.npc 5) (loadValue_toNat_lt s 0 p 2)
  have hhalf := fun (s : State) p => halfTarget_eq (s.npc 5) (loadValue_toNat_lt s 0 p 4)
  have hword := fun (s : State) p => wordTarget_eq (s.npc 5) (s.loadValue 0 p 8)
  refine ⟨fun s q sg ct ra disp p h => ⟨fun hr => ?jci, fun hr => ?jhi, fun hr => ?jwi⟩,
    fun s q sg ct ra rb p h => ⟨fun hr => ?jcix, fun hr => ?jhix, fun hr => ?jwix⟩⟩
  case jci | jcix => exact completesJump_of_eq_jumpThrough h hr (hchar s p) rfl
  case jhi | jhix => exact completesJump_of_eq_jumpThrough h hr (hhalf s p) rfl
  case jwi | jwix => exact completesJump_of_eq_jumpThrough h hr (hword s p) rfl

end Sys2Proof.Machine
end

section
/-! PROOFS for 46_system.md section 4 and 44_load_store.md section 6: the special purpose registers read and written by
number (R490 to R495, R419, R420; 10_state.md R47, R49, R52). -/

namespace Sys2Proof.Machine

/-! ### What each number reads (R490) -/

theorem setWidth_eq_of_toNat {w m : Nat} {n : BitVec w} {k : BitVec m} {lo : Nat} (h : n.toNat = lo + k.toNat)
    (hlo : lo % 2 ^ m = 0) : n.setWidth m = k := by
  apply BitVec.eq_of_toNat_eq
  rw [BitVec.toNat_setWidth, h, Nat.add_mod, hlo, Nat.zero_add, Nat.mod_mod, Nat.mod_eq_of_lt k.isLt]

section
variable {s : State} {npc : Word} {n : SprNum}

theorem sprRead_pred {k : PredReg} (h : n.toNat = k.toNat) : s.sprRead npc n = .ok (zext (s.pred k)) := by
  have hk := k.isLt
  rw [State.sprRead, if_pos (by omega), setWidth_eq_of_toNat (lo := 0) (k := k) (by omega) (by decide)]

theorem sprRead_code {k : CodeReg} (h : n.toNat = 16 + k.toNat) : s.sprRead npc n = .ok (s.codeReg npc k) := by
  have hk := k.isLt
  rw [State.sprRead, if_neg (by omega), if_pos (by omega), setWidth_eq_of_toNat h (by decide)]

theorem sprRead_base {k : SegReg} (h : n.toNat = 32 + k.toNat) :
    s.sprRead npc n = .ok (s.segs.base[k.toNat]'k.isLt) := by
  have hk := k.isLt
  obtain rfl : n.setWidth 3 = k := setWidth_eq_of_toNat h (by decide)
  rw [State.sprRead, if_neg (by omega), if_neg (by omega), if_pos (by omega)]

theorem sprRead_limit {k : SegReg} (h : n.toNat = 40 + k.toNat) :
    s.sprRead npc n = .ok (s.segs.limit[k.toNat]'k.isLt) := by
  have hk := k.isLt
  obtain rfl : n.setWidth 3 = k := setWidth_eq_of_toNat h (by decide)
  rw [State.sprRead, if_neg (by omega), if_neg (by omega), if_neg (by omega), if_pos (by omega)]

theorem sprRead_system (h : 48 ≤ n.toNat) : s.sprRead npc n = s.systemRead n := by
  rw [State.sprRead, if_neg (by omega), if_neg (by omega), if_neg (by omega), if_neg (by omega)]

theorem breakoutRead_address {k : BitVec 2} (h : s.bir.toNat = k.toNat) :
    s.breakoutRead = .ok (s.dbg.addr[k.toNat]'k.isLt) := by
  have hk := k.isLt
  obtain rfl : s.bir.setWidth 2 = k := setWidth_eq_of_toNat (lo := 0) (by omega) (by decide)
  rw [State.breakoutRead, if_pos (by omega)]

theorem breakoutRead_control (h : s.bir = 4) : s.breakoutRead = .ok s.dbg.ctrl := by
  rw [State.breakoutRead, if_neg (by rw [h]; decide), if_pos h]

theorem breakoutRead_status (h : s.bir = 5) : s.breakoutRead = .ok s.dbg.stat := by
  rw [State.breakoutRead, if_neg (by rw [h]; decide), if_neg (by rw [h]; decide), if_pos h]

/-- A register number is that of a predicate register, a code address register, a segment base or limit, or 48 and
above. -/
theorem sprNum_cases (n : SprNum) :
    (∃ k : PredReg, n.toNat = k.toNat) ∨ (∃ k : CodeReg, n.toNat = 16 + k.toNat) ∨
      (∃ k : SegReg, n.toNat = 32 + k.toNat) ∨ (∃ k : SegReg, n.toNat = 40 + k.toNat) ∨ 48 ≤ n.toNat := by
  by_cases h16 : n.toNat < 16
  · exact .inl ⟨BitVec.ofNatLT n.toNat h16, rfl⟩
  by_cases h32 : n.toNat < 32
  · exact .inr (.inl ⟨BitVec.ofNatLT (n.toNat - 16) (by omega), by rw [BitVec.toNat_ofNatLT]; omega⟩)
  by_cases h40 : n.toNat < 40
  · exact .inr (.inr (.inl ⟨BitVec.ofNatLT (n.toNat - 32) (by omega), by rw [BitVec.toNat_ofNatLT]; omega⟩))
  by_cases h48 : n.toNat < 48
  · exact .inr (.inr (.inr (.inl ⟨BitVec.ofNatLT (n.toNat - 40) (by omega), by rw [BitVec.toNat_ofNatLT]; omega⟩)))
  · exact .inr (.inr (.inr (.inr (by omega))))

/-- The numbers from 48 on that are listed (10_state.md R53). -/
theorem systemNum_cases : ∀ n : SprNum, 48 ≤ n.toNat → sprListed n = true →
    n = 48 ∨ n = 49 ∨ n = 50 ∨ n = 51 ∨ n = 52 ∨ n = 53 ∨ n = 59 ∨ n = 60 ∨ n = 61 := by
  decide +kernel

/-- BIR where SPR 61 is usable: one of the four addresses, the control or the status register (10_state.md R52). -/
theorem bir_cases {b : BitVec 6} (h : b.toNat ≤ 5) : (∃ k : BitVec 2, b.toNat = k.toNat) ∨ b = 4 ∨ b = 5 := by
  by_cases hlow : b.toNat < 4
  · exact .inl ⟨BitVec.ofNatLT b.toNat hlow, rfl⟩
  · obtain h4 | h5 : b.toNat = 4 ∨ b.toNat = 5 := by omega
    · exact .inr (.inl (BitVec.eq_of_toNat_eq h4))
    · exact .inr (.inr (BitVec.eq_of_toNat_eq h5))

/-- A usable register can be read. -/
theorem exists_sprRead (h : s.sprUsable n) : ∃ v, s.sprRead npc n = .ok v := by
  obtain ⟨hlisted, hbir⟩ := h
  obtain ⟨k, hk⟩ | ⟨k, hk⟩ | ⟨k, hk⟩ | ⟨k, hk⟩ | hk := sprNum_cases n
  · exact ⟨_, sprRead_pred hk⟩
  · exact ⟨_, sprRead_code hk⟩
  · exact ⟨_, sprRead_base hk⟩
  · exact ⟨_, sprRead_limit hk⟩
  · rw [sprRead_system hk]
    obtain rfl | rfl | rfl | rfl | rfl | rfl | rfl | rfl | rfl := systemNum_cases n hk hlisted
    case inr.inr.inr.inr.inr.inr.inr.inr =>
      obtain ⟨k, hk⟩ | hk | hk := bir_cases (hbir rfl)
      · exact ⟨_, breakoutRead_address hk⟩
      · exact ⟨_, breakoutRead_control hk⟩
      · exact ⟨_, breakoutRead_status hk⟩
    all_goals exact ⟨_, rfl⟩

end

/-! ### Reads of SPR 50 and 52 -/

theorem tick_le_tickNow (s : State) : s.tick.toNat ≤ s.tickNow.toNat := by
  rw [State.tickNow]
  split
  · exact Nat.le_refl _
  · rename_i hult
    simpa [BitVec.ult] using hult

theorem afterSprRead_of_ne {s : State} {n : SprNum} (h : n ≠ 50) : s.afterSprRead n = s := if_neg h

theorem afterSprRead_tick (s : State) : s.afterSprRead 50 = { s with tick := s.tickNow } := if_pos rfl

/-- PREGS holds each predicate register in its four bits (10_state.md R49). -/
theorem extractLsb'_predArray (s : State) {n : Nat} (hn : n < 16) :
    s.predArray.extractLsb' (4 * n) 4 = s.pred (BitVec.ofNat 4 n) := by
  unfold State.predArray
  interval_cases n
  all_goals
    simp (disch := decide) only [Nat.reduceMul, Nat.reduceSub, BitVec.extractLsb'_append_eq_of_le,
      BitVec.extractLsb'_append_eq_of_add_le, BitVec.extractLsb'_eq_self]
    rfl

theorem pred_setPredArray (s : State) (v : Word) (k : PredReg) :
    (s.setPredArray v).pred k = v.extractLsb' (4 * k.toNat) 4 := by
  simp [State.pred, State.setPredArray]

/-- MFSPR writes what the number reads (R490). -/
theorem mfspr_completes {q : Pred} {rt : Reg} {n : SprNum} {v : Word} {s : State} (h : s.Executes q [rt])
    (hn : n ≠ 50) (hread : s.sprRead (s.npc 4) n = .ok v) : completesReg (exec (.mfspr q rt n) s) s 4 rt v := by
  show completesReg (execMfspr q rt n s) s 4 rt v
  rw [execMfspr, guarded_executes h, hread, afterSprRead_of_ne hn]
  exact finishReg_completes s 4 rt v

theorem mfspr_tick {q : Pred} {rt : Reg} {s : State} (h : s.Executes q [rt]) :
    exec (.mfspr q rt 50) s = finishReg rt s.tickNow (s.npc 4) { s with tick := s.tickNow } := by
  show execMfspr q rt 50 s = _
  rw [execMfspr, guarded_executes h, afterSprRead_tick]
  rfl

theorem sprNum_ne {n m : SprNum} (h : n.toNat ≠ m.toNat) : n ≠ m := fun e => h (by rw [e])

/-- Settles O48: one read of the table for each number, and TICK, which keeps the value that it showed. -/
theorem specialRegisterReads : Obligations.SpecialRegisterReads := by
  intro s q rt spr h
  have hread : ∀ m, spr.toNat = m → 48 ≤ m → m ≠ 50 → ∀ v, s.systemRead spr = .ok v →
      completesReg (exec (.mfspr q rt spr) s) s 4 rt v := fun m hm hlow hne v hv =>
    mfspr_completes h (sprNum_ne (by rw [hm]; exact hne)) ((sprRead_system (by omega)).trans hv)
  have hlow : spr.toNat < 48 → spr ≠ 50 := fun hlt => sprNum_ne (Nat.ne_of_lt (Nat.lt_trans hlt (by decide)))
  refine ⟨fun k hk => ?pred, fun k hk => ?code, fun k => ⟨fun hk => ?base, fun hk => ?limit⟩, fun hk => ?mid,
    fun hk => ?feat, fun hk => ?tick, fun hk => ?lc, fun hk => ?pregs, fun hk => ?asid, fun hk => ?exc, fun hk => ?bir,
    fun k hk hb => ?address, fun hk hb => ?control, fun hk hb => ?status⟩
  case pred => exact mfspr_completes h (hlow (by omega)) (sprRead_pred hk)
  case code => exact mfspr_completes h (hlow (by omega)) (sprRead_code hk)
  case base => exact mfspr_completes h (hlow (by omega)) (sprRead_base hk)
  case limit => exact mfspr_completes h (hlow (by omega)) (sprRead_limit hk)
  case mid | feat | lc | asid | exc =>
    exact hread _ hk (by decide) (by decide) _ (by simp only [State.systemRead, hk])
  case tick =>
    subst hk
    exact ⟨_, s.tickNow, mfspr_tick h, tick_le_tickNow s, finishReg_writes { s with tick := s.tickNow } rt _ _⟩
  case pregs =>
    subst hk
    refine ⟨s.predArray, hread 52 rfl (by decide) (by decide) _ rfl, fun k => ?_⟩
    rw [extractLsb'_predArray s k.isLt, BitVec.ofNat_toNat, BitVec.setWidth_eq]
  case bir =>
    subst hk
    exact ⟨_, hread 60 rfl (by decide) (by decide) _ rfl⟩
  case address =>
    subst hk
    exact hread 61 rfl (by decide) (by decide) _ (breakoutRead_address hb)
  case control =>
    subst hk
    exact hread 61 rfl (by decide) (by decide) _ (breakoutRead_control hb)
  case status =>
    subst hk
    exact hread 61 rfl (by decide) (by decide) _ (breakoutRead_status hb)

/-! ### What each number writes (R491) -/

section
variable {s : State} {n : SprNum} {v npc : Word}

/-- A write below 48: a predicate register, a code address register, a segment base or a limit. -/
theorem SprWritten.of_register (hn : n.toNat < 48) {preds : Vector (BitVec 4) 16} {code : Vector Word 16}
    {segs : Segments}
    (hpreds : ∀ k : PredReg, preds[k.toNat] = if n.toNat = k.toNat then v.setWidth 4 else s.pred k)
    (hcode : ∀ m c, State.codeReg { s with code := code } m c =
      if n.toNat = 16 + c.toNat ∧ c ≠ 0 ∧ c ≠ 15 then v else s.codeReg m c)
    (hbase : ∀ k : SegReg, segs.base[k.toNat] = if n.toNat = 32 + k.toNat then v else s.segs.base[k.toNat])
    (hlimit : ∀ k : SegReg, segs.limit[k.toNat] = if n.toNat = 40 + k.toNat then v else s.segs.limit[k.toNat])
    (hused : segs.baseUsed = s.segs.baseUsed ∧ segs.limitUsed = s.segs.limitUsed) :
    SprWritten s { s with preds := preds, code := code, segs := segs, pc := npc } n v npc := by
  have hne : ∀ m : SprNum, 48 ≤ m.toNat → n ≠ m := fun m hm => sprNum_ne (by omega)
  constructor
  case preds => exact fun k => (hpreds k).trans (by rw [if_neg (hne 52 (by decide))])
  case code => exact hcode
  case base => exact hbase
  case limit => exact hlimit
  case used => exact hused
  case lc => exact (if_neg (hne 51 (by decide))).symm
  case asid => exact (if_neg (hne 53 (by decide))).symm
  case exc => exact (if_neg (hne 59 (by decide))).symm
  case bir => exact (if_neg (hne 60 (by decide))).symm
  case dbad => exact fun k => (if_neg fun h => hne 61 (by decide) h.1).symm
  case dbctrl | dbstat => exact (if_neg fun h => hne 61 (by decide) h.1).symm
  case pc | rest => rfl
  case memory => exact fun _ => rfl

/-- A write from 48 on: none of the numbered register files below is touched. -/
theorem SprWritten.of_system (hn : 48 ≤ n.toNat) {preds : Vector (BitVec 4) 16} {lc exc : Word} {asid : BitVec 8}
    {bir : BitVec 6} {dbg : DebugRegs}
    (hpreds : ∀ k : PredReg, preds[k.toNat] = if n = 52 then v.extractLsb' (4 * k.toNat) 4 else s.pred k := by
      simp [State.pred])
    (hlc : lc = if n = 51 then v else s.lc := by simp)
    (hasid : asid = if n = 53 then v.setWidth 8 else s.asid := by simp)
    (hexc : exc = if n = 59 then v else s.exc := by simp)
    (hbir : bir = if n = 60 then v.setWidth 6 else s.bir := by simp)
    (haddr : ∀ k : BitVec 2,
      dbg.addr[k.toNat] = if n = 61 ∧ s.bir.toNat = k.toNat then v else s.dbg.addr[k.toNat] := by simp)
    (hctrl : dbg.ctrl = if n = 61 ∧ s.bir = 4 then v else s.dbg.ctrl := by simp)
    (hstat : dbg.stat = if n = 61 ∧ s.bir = 5 then v else s.dbg.stat := by simp) :
    SprWritten s { s with preds := preds, lc := lc, exc := exc, asid := asid, bir := bir, dbg := dbg, pc := npc }
      n v npc := by
  constructor
  case preds => exact fun k => (hpreds k).trans (if_neg (by have := k.isLt; omega)).symm
  case code => exact fun m c => (if_neg fun h => by have := c.isLt; omega).symm
  case base | limit => exact fun k => (if_neg (by have := k.isLt; omega)).symm
  case lc => exact hlc
  case asid => exact hasid
  case exc => exact hexc
  case bir => exact hbir
  case dbad => exact haddr
  case dbctrl => exact hctrl
  case dbstat => exact hstat
  case used => exact ⟨rfl, rfl⟩
  case pc | rest => rfl
  case memory => exact fun _ => rfl

theorem sprWrite_pred {k : PredReg} (h : n.toNat = k.toNat) :
    s.sprWrite n v = .ok (s.setPred k (v.setWidth 4)) ∧
      SprWritten s ((s.setPred k (v.setWidth 4)).setPc npc) n v npc := by
  have hk := k.isLt
  refine ⟨?_, .of_register (by omega) (fun j => ?_) (fun m c => ?_) (fun j => ?_) (fun j => ?_) ⟨rfl, rfl⟩⟩
  · rw [State.sprWrite, if_pos (by omega), setWidth_eq_of_toNat (lo := 0) (k := k) (by omega) (by decide)]
  · simp only [State.setPred, Vector.getElem_set, h]
    rfl
  · exact (if_neg (by omega)).symm
  · exact (if_neg (by omega)).symm
  · exact (if_neg (by omega)).symm

theorem setCodeReg_eq (s : State) (c : CodeReg) (v : Word) :
    s.setCodeReg c v = { s with code := (s.setCodeReg c v).code } := by
  unfold State.setCodeReg
  split <;> rfl

theorem sprWrite_code {k : CodeReg} (h : n.toNat = 16 + k.toNat) :
    s.sprWrite n v = .ok (s.setCodeReg k v) ∧ SprWritten s ((s.setCodeReg k v).setPc npc) n v npc := by
  have hk := k.isLt
  refine ⟨?_, ?_⟩
  · rw [State.sprWrite, if_neg (by omega), if_pos (by omega), setWidth_eq_of_toNat h (by decide)]
  · rw [setCodeReg_eq]
    refine .of_register (by omega) (fun j => ?_) (fun m c => ?_) (fun j => ?_) (fun j => ?_) ⟨rfl, rfl⟩
    · exact (if_neg (by have := j.isLt; omega)).symm
    · have hiff : c = k ↔ n.toNat = 16 + c.toNat := by rw [← BitVec.toNat_inj]; omega
      have hread := State.codeReg_setCodeReg s m k c v
      simp only [State.codeReg] at hread ⊢
      rw [hread]
      by_cases hc : c = k
      · subst hc
        simp only [h, true_and]
      · simp only [hc, ← hiff, false_and, if_false]
    · exact (if_neg (by omega)).symm
    · exact (if_neg (by omega)).symm

theorem sprWrite_base {k : SegReg} (h : n.toNat = 32 + k.toNat) :
    s.sprWrite n v = .ok (s.setSegment k v) ∧ SprWritten s ((s.setSegment k v).setPc npc) n v npc := by
  have hk := k.isLt
  refine ⟨?_, .of_register (by omega) (fun j => ?_) (fun m c => ?_) (fun j => ?_) (fun j => ?_) ⟨rfl, rfl⟩⟩
  · rw [State.sprWrite, if_neg (by omega), if_neg (by omega), if_pos (by omega), setWidth_eq_of_toNat h (by decide)]
  · exact (if_neg (by have := j.isLt; omega)).symm
  · exact (if_neg fun hc => by have := c.isLt; omega).symm
  · simp only [State.setSegment, Vector.getElem_set, h, Nat.add_left_cancel_iff]
  · exact (if_neg (by omega)).symm

theorem sprWrite_limit {k : SegReg} (h : n.toNat = 40 + k.toNat) :
    s.sprWrite n v = .ok (s.setLimit k v) ∧ SprWritten s ((s.setLimit k v).setPc npc) n v npc := by
  have hk := k.isLt
  refine ⟨?_, .of_register (by omega) (fun j => ?_) (fun m c => ?_) (fun j => ?_) (fun j => ?_) ⟨rfl, rfl⟩⟩
  · rw [State.sprWrite, if_neg (by omega), if_neg (by omega), if_neg (by omega), if_pos (by omega),
      setWidth_eq_of_toNat h (by decide)]
  · exact (if_neg (by have := j.isLt; omega)).symm
  · exact (if_neg fun hc => by have := c.isLt; omega).symm
  · exact (if_neg (by have := j.isLt; omega)).symm
  · simp only [State.setLimit, Vector.getElem_set, h, Nat.add_left_cancel_iff]

theorem breakoutWrite_address {k : BitVec 2} (h : s.bir.toNat = k.toNat) :
    s.breakoutWrite v = .ok { s with dbg := { s.dbg with addr := s.dbg.addr.set k.toNat v k.isLt } } := by
  have hk := k.isLt
  rw [← State.setDebugAddress, State.breakoutWrite, if_pos (by omega),
    setWidth_eq_of_toNat (lo := 0) (k := k) (by omega) (by decide)]

theorem breakoutWrite_control (h : s.bir = 4) : s.breakoutWrite v = .ok { s with dbg := { s.dbg with ctrl := v } } := by
  rw [State.breakoutWrite, if_neg (by rw [h]; decide), if_pos h]

theorem breakoutWrite_status (h : s.bir = 5) : s.breakoutWrite v = .ok { s with dbg := { s.dbg with stat := v } } := by
  rw [State.breakoutWrite, if_neg (by rw [h]; decide), if_neg (by rw [h]; decide), if_pos h]

/-- SPR 61 writes the debug register that BIR names (10_state.md R52). -/
theorem breakoutWrite_written (hb : s.bir.toNat ≤ 5) :
    ∃ u, s.breakoutWrite v = .ok u ∧ SprWritten s (u.setPc npc) 61 v npc := by
  have hne : ∀ k : BitVec 2, k.toNat ≠ 4 ∧ k.toNat ≠ 5 := fun k => by have := k.isLt; omega
  obtain ⟨k, hk⟩ | hk | hk := bir_cases hb
  · refine ⟨_, breakoutWrite_address hk, ?_⟩
    have h4 : s.bir ≠ 4 := fun e => (hne k).1 (by rw [← hk, e]; rfl)
    have h5 : s.bir ≠ 5 := fun e => (hne k).2 (by rw [← hk, e]; rfl)
    refine .of_system (by decide) (haddr := fun j => ?_)
      (hctrl := (if_neg fun hc => h4 hc.2).symm) (hstat := (if_neg fun hc => h5 hc.2).symm)
    simp [Vector.getElem_set, hk]
  · refine ⟨_, breakoutWrite_control hk, ?_⟩
    refine .of_system (by decide) (haddr := fun j => ?_) (hctrl := ?_) (hstat := ?_)
    · simp [hk, Ne.symm (hne j).1]
    · simp [hk]
    · simp [hk]
  · refine ⟨_, breakoutWrite_status hk, ?_⟩
    refine .of_system (by decide) (haddr := fun j => ?_) (hctrl := ?_) (hstat := ?_)
    · simp [hk, Ne.symm (hne j).2]
    · simp [hk]
    · simp [hk]

/-- The numbers from 48 on: the read-only registers discard the write (R491). -/
theorem systemWrite_written (hn : 48 ≤ n.toNat) (hu : s.sprUsable n) :
    ∃ u, s.systemWrite n v = .ok u ∧ SprWritten s (u.setPc npc) n v npc := by
  obtain rfl | rfl | rfl | rfl | rfl | rfl | rfl | rfl | rfl := systemNum_cases n hn hu.1
  case inr.inr.inr.inr.inl =>
    refine ⟨{ s with preds := Vector.ofFn fun k : Fin 16 => v.extractLsb' (4 * k.val) 4 }, rfl, ?_⟩
    exact .of_system hn (hpreds := fun k => by simp)
  case inr.inr.inr.inr.inr.inr.inr.inr => exact breakoutWrite_written (hu.2 rfl)
  all_goals
    refine ⟨_, rfl, ?_⟩
    exact .of_system hn

/-- A usable register takes a write as R491 gives it. -/
theorem sprWrite_written (hu : s.sprUsable n) :
    ∃ u, s.sprWrite n v = .ok u ∧ SprWritten s (u.setPc npc) n v npc := by
  obtain ⟨k, hk⟩ | ⟨k, hk⟩ | ⟨k, hk⟩ | ⟨k, hk⟩ | hk := sprNum_cases n
  · exact ⟨_, sprWrite_pred hk⟩
  · exact ⟨_, sprWrite_code hk⟩
  · exact ⟨_, sprWrite_base hk⟩
  · exact ⟨_, sprWrite_limit hk⟩
  · rw [State.sprWrite, if_neg (by omega), if_neg (by omega), if_neg (by omega), if_neg (by omega)]
    exact systemWrite_written hk hu

/-- An instruction that writes a special register and goes on. -/
theorem sprWrite_run (hu : s.sprUsable n) :
    ∃ t, (s.sprWrite n v).run (fun t => .next (t.setPc npc)) = Host.Outcome.next t ∧ SprWritten s t n v npc := by
  obtain ⟨u, hwrite, hwritten⟩ := sprWrite_written (npc := npc) hu
  exact ⟨_, by rw [hwrite]; rfl, hwritten⟩

end

/-- Settles O49: MTSPR and LDIS are the one table of writes. -/
theorem specialRegisterWrites : Obligations.SpecialRegisterWrites := by
  refine ⟨fun s q spr ra h hu => ?_, fun s q spr imm h hu => ?_⟩
  · show ∃ t, execMtspr q spr ra s = .next t ∧ _
    rw [execMtspr, guarded_executes h]
    exact sprWrite_run hu
  · show ∃ t, execLdis q spr imm s = .next t ∧ _
    rw [execLdis, guarded_executes (executes_nil h)]
    exact sprWrite_run hu

/-! ### Moves between special registers, and with memory (R492, R419, R420) -/

/-- A read leaves BIR alone. -/
theorem sprUsable_afterSprRead {s : State} {n m : SprNum} (h : s.sprUsable n) : (s.afterSprRead m).sprUsable n := by
  unfold State.afterSprRead
  split <;> exact h

theorem afterSprRead_bytes {s t : State} {p : Phys} {k : Nat} {v npc : Word} (n : SprNum) (h : StoresBytes s t p k v) :
    StoresBytes (s.afterSprRead n) ((t.afterSprRead n).setPc npc) p k v := by
  obtain ⟨hin, hout, hun, hd, hst⟩ := h
  unfold State.afterSprRead
  split <;> exact ⟨hin, hout, hun, hd, hst⟩

/-- The value that TICK shows does not depend on what a store changes. -/
theorem afterSprRead_storeValue_rest (s : State) (p : Phys) (k : Nat) (v npc : Word) (n : SprNum) :
    { ((s.storeValue p k v).afterSprRead n).setPc npc with
      mem := (s.afterSprRead n).mem, stale := (s.afterSprRead n).stale, tlb := (s.afterSprRead n).tlb,
      pc := (s.afterSprRead n).pc } = s.afterSprRead n := by
  have hrest := storeValue_rest s p k v npc
  unfold State.afterSprRead
  split
  · cases s
    simp [State.setPc, State.tickNow]
  · exact hrest

/-- Settles O50: a usable register is read and written by the table; SWS keeps what TICK showed after its store. -/
theorem specialRegisterMoves : Obligations.SpecialRegisterMoves := by
  refine ⟨fun s q sprt spr h ht hu => ?movs, fun s q sg spr ra disp p h hu => ⟨fun hr => ?lws, fun hr hw => ?sws⟩,
    fun s spr => ⟨afterSprRead_of_ne, _, tick_le_tickNow s, afterSprRead_tick s⟩⟩
  case movs =>
    obtain ⟨v, hread⟩ := exists_sprRead (npc := s.npc 4) hu
    obtain ⟨t, hrun, hwritten⟩ := sprWrite_run (v := v) (npc := s.npc 4) (sprUsable_afterSprRead (m := spr) ht)
    refine ⟨v, t, hread, ?_, hwritten⟩
    show execMovs q sprt spr s = _
    rw [execMovs, guarded_executes (executes_nil h), hread]
    exact hrun
  case lws =>
    show ∃ t, execLws q sg spr ra disp s = .next t ∧ _
    rw [execLws, guarded_executes h, if_pos hu.1]
    have hmem := memRead_reaches (k := fun v => (s.sprWrite spr v).run fun t => .next (t.setPc (s.npc 5))) hr
    obtain ⟨t, hrun, hwritten⟩ := sprWrite_run (v := s.loadValue 0 p 8) (npc := s.npc 5) hu
    exact ⟨t, hmem.trans hrun, hwritten⟩
  case sws =>
    obtain ⟨v, hread⟩ := exists_sprRead (npc := s.npc 5) hu
    refine ⟨v, ((s.storeValue p 8 v).afterSprRead spr).setPc (s.npc 5), hread, ?_,
      afterSprRead_bytes spr (storeValue_stores s p 8 v hw), rfl, afterSprRead_storeValue_rest s p 8 v _ spr⟩
    show execSws q sg spr ra disp s = _
    rw [execSws, guarded_executes h, hread]
    exact memWrite_reaches (k := fun t => .next ((t.afterSprRead spr).setPc (s.npc 5))) hr

end Sys2Proof.Machine
end

section
/-! PROOFS for 44_load_store.md: loads, stores, reservation, compare and swap, increment, and the order of the checks of
a data access (20_memory.md R91). -/

namespace Sys2Proof.Machine

/-! ### Loads -/

/-- Settles O43: each load is one `loadReg`. -/
theorem loadResults : Obligations.LoadResults := by
  refine ⟨fun s q sg rt ra disp p h => ⟨fun hr => ⟨?lb, ?lbu, ?lvb⟩, fun hr => ⟨?lc, ?lcu, ?lvc⟩,
    fun hr => ⟨?lh, ?lhu, ?lvh⟩, fun hr => ⟨?lw, ?lvw⟩⟩,
    fun s q sg sc rt ra rb p h => ⟨fun hr => ⟨?lbx, ?lbux⟩, fun hr => ⟨?lcx, ?lcux⟩, fun hr => ⟨?lhx, ?lhux⟩,
      fun hr => ?lwx⟩, fun s q sg rt ra p h hr => ?short⟩
  case lb | lvb | lbx => exact loadReg_completes (ext := extendByte) h hr
  case lc | lvc | lcx => exact loadReg_completes (ext := extendChar) h hr
  case lh | lvh | lhx => exact loadReg_completes (ext := extendHalf) h hr
  case lbu | lcu | lhu | lw | lvw | lbux | lcux | lhux | lwx | short => exact loadReg_completes (ext := id) h hr

theorem loadReg_zero_completes {q : Pred} {len : Nat} {named : List Reg} {sg : SegReg} {off : Word} {n : Nat}
    {ext : Word → Word} {s : State} (h : s.Executes q named) :
    completesPc (loadReg q len named sg off n ext 0 s) s (s.npc len) := by
  rw [loadReg_prefetches h]
  exact setPc_completes s _

/-- Settles O44: `loadReg` with target r0 makes no access. -/
theorem prefetchesDoNothing : Obligations.PrefetchesDoNothing := by
  refine ⟨fun s q sg ra disp h => ⟨?disp, ?short⟩, fun s q sg sc ra rb h => ?index,
    fun s q sg tgt ra disp h => ?lcl⟩
  case disp =>
    simp only [List.forall_mem_cons, List.not_mem_nil, false_imp_iff, implies_true, and_true]
    refine ⟨?_, ?_, ?_, ?_, ?_, ?_, ?_, ?_, ?_, ?_, ?_⟩
    all_goals exact loadReg_zero_completes h
  case short => exact loadReg_zero_completes h
  case index =>
    simp only [List.forall_mem_cons, List.not_mem_nil, false_imp_iff, implies_true, and_true]
    refine ⟨?_, ?_, ?_, ?_, ?_, ?_, ?_⟩
    all_goals exact loadReg_zero_completes h
  case lcl =>
    show completesPc (execLcl q sg tgt ra disp s) s _
    rw [execLcl, guarded_executes h]
    exact setPc_completes s _

/-! ### Stores -/

/-- Settles O45: each store is one `storeWord`. -/
theorem storeResults : Obligations.StoreResults := by
  refine ⟨fun s q sg rs ra disp p h hw => ⟨fun hr => ?sb, fun hr => ?sc, fun hr => ?sh, fun hr => ?sw⟩,
    fun s q sg scale rs ra rb p h hw => ⟨fun hr => ?sbx, fun hr => ?scx, fun hr => ?shx, fun hr => ?swx⟩,
    fun s q sg imm ra disp p h hw hr => ?sti, fun s q scale imm ra rb p h hw hr => ?stix⟩
  case sti =>
    rw [BitVec.ofNat_toNat]
    exact storeWord_completes h hr hw
  case stix =>
    rw [BitVec.ofNat_toNat]
    exact storeWord_completes h hr hw
  all_goals exact storeWord_completes h hr hw

/-! ### Stores beside other effects -/

/-- What a store says of memory, of what fetches may still see and of the TLB, in any state that agrees with it
there. -/
theorem StoresBytes.congr {s t u : State} {p : Phys} {n : Nat} {v : Word} (h : StoresBytes s t p n v)
    (hmem : u.mem = t.mem) (hstale : u.stale = t.stale) (htlb : u.tlb = t.tlb) : StoresBytes s u p n v where
  stored := hmem ▸ h.stored
  outside := hmem ▸ h.outside
  untranslated := htlb ▸ h.untranslated
  dirty := htlb ▸ h.dirty
  stale := hstale ▸ h.stale

/-- An access that reaches its address goes on. -/
theorem dataCheck_run_reaches {s : State} {k : AccessKind} {slot : Nat} {sg : SegReg} {off : Word} {n : Nat} {p : Phys}
    (f : Phys → Result) (h : s.Reaches k slot sg off n p) : (dataCheck s k slot sg off n).run f = f p := by
  rw [dataCheck_ok h]
  rfl

section
variable {s : State} {q : Pred} {sg : SegReg} {rs ra : Reg} {disp : BitVec 9} {p : Phys} (h : s.Executes q [rs, ra])
  (hr : s.Reaches .store 0 sg (s.reg ra + s.imm disp) 8 p)
include h hr

/-- SWCR with a reservation: the store, p0 clear and the reservation gone (R414). -/
theorem exec_swcr_reserved (hres : s.reserved p.pa = true) : exec (.swcr q sg rs ra disp) s =
    .next { (s.storeValue p 8 (s.reg rs)).setPred 0 0 with reservation := none, pc := s.npc 5 } := by
  show execSwcr q sg rs ra disp s = _
  rw [execSwcr, guarded_executes h]
  refine (dataCheck_run_reaches _ hr).trans ?_
  simp only [hres, if_true]
  rfl

/-- SWCR without one: no store, p0 set to equal (R414). -/
theorem exec_swcr_unreserved (hres : s.reserved p.pa = false) : exec (.swcr q sg rs ra disp) s =
    .next { s.setPred 0 1 with reservation := none, pc := s.npc 5 } := by
  show execSwcr q sg rs ra disp s = _
  rw [execSwcr, guarded_executes h]
  refine (dataCheck_run_reaches _ hr).trans ?_
  simp only [hres, Bool.false_eq_true, if_false]
  rfl

end

/-- Settles O46: SWCR takes one of two branches by the reservation, and drops it in both. -/
theorem reservation : Obligations.Reservation := by
  refine ⟨fun s q sg rt ra disp p h hr => ?lvwar, fun s q sg rs ra disp p h hw hr => ?swcr,
    fun s pa => ⟨fun hres => ?own, fun hres => ?absent⟩⟩
  case lvwar =>
    refine ⟨_, ?_, finishReg_writes { s with reservation := some p.pa } rt _ _⟩
    show execLvwar q sg rt ra disp s = _
    rw [execLvwar, guarded_executes h]
    exact dataCheck_run_reaches _ hr
  case swcr =>
    cases hres : s.reserved p.pa with
    | true =>
      obtain ⟨htarget, hothers, -⟩ := setPred_writes (s.storeValue p 8 (s.reg rs)) 0 0 (s.npc 5)
      refine ⟨_, exec_swcr_reserved h hr hres, rfl, rfl, fun k hk => ?_, fun _ => ⟨htarget, ?_⟩,
        fun hc => absurd hc (by decide), ?_⟩
      · refine (hothers k hk).trans ?_
        simp [State.pred]
      · exact (storeValue_stores s p 8 _ hw).congr rfl rfl rfl
      · cases s
        simp [State.setPred]
    | false =>
      obtain ⟨htarget, hothers, -⟩ := setPred_writes s 0 1 (s.npc 5)
      exact ⟨_, exec_swcr_unreserved h hr hres, rfl, rfl, hothers, fun hc => absurd hc (by decide),
        fun _ => ⟨htarget, fun _ => rfl, rfl, rfl⟩, rfl⟩
  case own => simp [State.reserved, hres]
  case absent => simp [State.reserved, hres]

/-- Settles O47: CAS is a load with a store before it where the words agree; INC is a store of the sum. -/
theorem compareSwapAndIncrement : Obligations.CompareSwapAndIncrement := by
  refine ⟨fun s q rt ra rb rc disp p h hw hr => ⟨fun heq => ?equal, fun hne => ?different⟩,
    fun s q sg sz ra disp amt p h hw hsz hr => ?inc⟩
  case equal =>
    obtain ⟨htarget, hothers, -, -, hrest⟩ :=
      finishReg_writes (s.storeValue p 8 (s.reg rc)) rt (s.loadValue 0 p 8) (s.npc 6)
    refine ⟨_, ?_, (storeValue_stores s p 8 (s.reg rc) hw).congr ?_ ?_ ?_, htarget, fun r hr => ?_, rfl, ?_⟩
    · show execCas q rt ra rb rc disp s = _
      rw [execCas, guarded_executes h]
      exact (dataCheck_run_reaches _ hr).trans (by simp only [heq, if_true]; rfl)
    · simp
    · simp
    · simp
    · exact (hothers r hr).trans (by simp [State.reg])
    · cases s
      simp
  case different =>
    refine ⟨_, ?_, finishReg_writes s rt _ _⟩
    show execCas q rt ra rb rc disp s = _
    rw [execCas, guarded_executes h]
    exact (dataCheck_run_reaches _ hr).trans (by simp only [hne, if_false]; rfl)
  case inc =>
    have hsum : BitVec.ofInt 64 ((s.loadValue 0 p (2 ^ sz.toNat)).toInt + amt.toInt) =
        s.loadValue 0 p (2 ^ sz.toNat) + sext amt := by
      rw [BitVec.ofInt_add, BitVec.ofInt_toInt]
      rfl
    have hrun : exec (.inc q sg 0 sz ra disp amt) s = .next ((s.storeValue p (2 ^ sz.toNat)
        (s.loadValue 0 p (2 ^ sz.toNat) + sext amt)).setPc (s.npc 6)) := by
      show execInc q sg 0 sz ra disp amt s = _
      rw [execInc, guarded_executes h, if_pos (by simp [incFormListed, hsz])]
      exact dataCheck_run_reaches _ hr
    rw [hsum]
    exact ⟨_, hrun, (storeValue_stores s p _ _ hw).congr rfl rfl rfl, rfl, storeValue_rest s p _ _ _⟩

/-! ### The order of the checks of a data access (20_memory.md R91) -/

section
variable {s : State} {k : AccessKind} {slot : Nat} {sg : SegReg} {off : Word} {n : Nat}

theorem dataCheck_misaligned (h : (addSegment (s.segmentBase slot sg) off).toNat % n ≠ 0) :
    dataCheck s k slot sg off n = .refuse .misaligned := if_pos h

variable (ha : (addSegment (s.segmentBase slot sg) off).toNat % n = 0)
include ha

theorem dataCheck_limit (hl : limitFault (s.segmentLimit slot sg) off = true) :
    dataCheck s k slot sg off n = .raise 244 s := by
  rw [dataCheck, if_neg (not_not.mpr ha), if_pos hl]

variable (hl : limitFault (s.segmentLimit slot sg) off = false)
include hl

theorem dataCheck_lastPage (hp : inLastPage (addSegment (s.segmentBase slot sg) off) = true) :
    dataCheck s k slot sg off n = .fault .unreachablePage := by
  rw [dataCheck, if_neg (not_not.mpr ha), if_neg (Bool.not_eq_true _ ▸ hl), if_pos hp]

variable (hp : inLastPage (addSegment (s.segmentBase slot sg) off) = false)
include hp

theorem dataCheck_hit {p : Phys} (ht : s.translate (addSegment (s.segmentBase slot sg) off) = .hit p) :
    dataCheck s k slot sg off n = dataPhysCheck s k (addSegment (s.segmentBase slot sg) off) p := by
  simp [dataCheck, ha, hl, hp, ht]

end

theorem dataPhysCheck_watched {s : State} {k : AccessKind} {va : Word} (p : Phys)
    (h : debugHits (debugDataMatch s.dbg k va) ≠ 0) :
    dataPhysCheck s k va p = .raise 243 (s.setDebugStatus (debugHits (debugDataMatch s.dbg k va))) := if_pos h

theorem dataPhysCheck_busError {s : State} {k : AccessKind} {va : Word} {p : Phys}
    (h : debugHits (debugDataMatch s.dbg k va) = 0) (hb : s.dataBusError k p.pa.toNat = true) :
    dataPhysCheck s k va p = .raise 251 s := by
  rw [dataPhysCheck, if_neg (not_not.mpr h), if_pos hb]

/-- An exception that a check raises is taken with the unit's own address. -/
theorem Check.run_raises {α : Type} {c : Check α} {v : BitVec 8} {s u : State} (f : α → Result)
    (hc : c = .raise v u) (hpc : u.pc = s.pc) (hv : u.vectorInArea v) : raises (c.run f) u v s.pc := by
  rw [hc, ← hpc]
  exact raiseException_raises hv

/-- The checks of R91 in their order: each clause of O21's first part is one branch. -/
theorem dataCheck_run_checks (s : State) (k : AccessKind) (slot : Nat) (sg : SegReg) (off : Word) (n : Nat)
    (f : Phys → Result) :
    let va := addSegment (s.segmentBase slot sg) off
    let r := (dataCheck s k slot sg off n).run f
    let hits := debugHits (debugDataMatch s.dbg k va)
    (va.toNat % n ≠ 0 → r = .refused .misaligned) ∧
    (va.toNat % n = 0 → limitFault (s.segmentLimit slot sg) off = true → s.vectorInArea 244 → raises r s 244 s.pc) ∧
    (va.toNat % n = 0 → limitFault (s.segmentLimit slot sg) off = false →
      (inLastPage va = true → r = .fault .unreachablePage) ∧
      (inLastPage va = false →
        (s.translate va = .miss → s.vectorInArea 248 → raises r (s.recordDataMiss va) 248 s.pc) ∧
        (∀ p, s.translate va = .hit p →
          (hits ≠ 0 → s.vectorInArea 243 → raises r (s.setDebugStatus hits) 243 s.pc) ∧
          (hits = 0 → s.dataBusError k p.pa.toNat = true → s.vectorInArea 251 → raises r s 251 s.pc) ∧
          (hits = 0 → s.dataBusError k p.pa.toNat = false → r = f p)))) := by
  intro va r hits
  refine ⟨fun ha => ?misaligned, fun ha hl hv => Check.run_raises f (dataCheck_limit ha hl) rfl hv,
    fun ha hl => ⟨fun hp => ?lastPage, fun hp => ⟨fun ht hv => ?miss, fun p ht => ⟨fun hd hv => ?watched,
      fun hd hb hv => ?busError, fun hd hb => ?reaches⟩⟩⟩⟩
  case misaligned => exact congrArg (Check.run · f) (dataCheck_misaligned ha)
  case lastPage => exact congrArg (Check.run · f) (dataCheck_lastPage ha hl hp)
  case miss =>
    have hcheck : dataCheck s k slot sg off n = .raise 248 (s.recordDataMiss va) :=
      dataCheck_eq_raise_of_miss ha hl hp ht
    rw [recordDataMiss_eq] at hcheck ⊢
    exact Check.run_raises f hcheck rfl hv
  case watched =>
    exact Check.run_raises f ((dataCheck_hit ha hl hp ht).trans (dataPhysCheck_watched p hd)) rfl hv
  case busError =>
    exact Check.run_raises f ((dataCheck_hit ha hl hp ht).trans (dataPhysCheck_busError hd hb)) rfl hv
  case reaches => exact dataCheck_run_reaches f ⟨ha, hl, hp, ht, hd, hb⟩

section
variable {s : State} {q : Pred} {named : List Reg} {sg : SegReg} {off : Word} {n : Nat} {k : AccessKind} {len : Nat}
  (h : s.Executes q named) (hno : ∀ p, ¬s.Reaches k 0 sg off n p)
include h hno

/-- An instruction that starts with an access ends as the access's check where it does not reach its address. -/
theorem guarded_unreached (f g : Phys → Result) :
    (guarded q len named s fun _ => (dataCheck s k 0 sg off n).run f) = (dataCheck s k 0 sg off n).run g := by
  rw [guarded_executes h]
  exact dataCheck_run_congr _ _ hno

theorem stringStep_unreached (hlc : s.lc ≠ 0) (f g : Phys → Result) :
    (stringStep q named s fun _ => (dataCheck s k 0 sg off n).run f) = (dataCheck s k 0 sg off n).run g := by
  rw [stringStep_runs h hlc]
  exact dataCheck_run_congr _ _ hno

end

theorem storeWord_unreached {s : State} {q : Pred} {len : Nat} {named : List Reg} {sg : SegReg} {off v : Word} {n : Nat}
    (h : s.Executes q named) (hno : ∀ p, ¬s.Reaches .store 0 sg off n p) (g : Phys → Result) :
    storeWord q len named sg off n v s = (dataCheck s .store 0 sg off n).run g :=
  guarded_unreached h hno _ g

theorem jumpThrough_unreached {s : State} {q : Pred} {named : List Reg} {sg : SegReg} {ct : CodeReg} {off : Word}
    {n : Nat} {target : Word → Word → Word} (h : s.Executes q named) (hno : ∀ p, ¬s.Reaches .load 0 sg off n p)
    (g : Phys → Result) : jumpThrough q named sg ct off n target s = (dataCheck s .load 0 sg off n).run g :=
  guarded_unreached h hno _ g

theorem loadReg_unreached {s : State} {q : Pred} {len : Nat} {named : List Reg} {sg : SegReg} {off : Word} {n : Nat}
    {ext : Word → Word} {rt : Reg} (h : s.Executes q named) (hrt : rt ≠ 0)
    (hno : ∀ p, ¬s.Reaches .load 0 sg off n p) (g : Phys → Result) : loadReg q len named sg off n ext rt s =
      (dataCheck s .load 0 sg off n).run g := by
  rw [loadReg, guarded_executes h, if_neg hrt]
  exact dataCheck_run_congr _ _ hno

/-- Each instruction's first access is the check it starts with. -/
theorem exec_eq_run_of_unreached {i : Instr} {q : Pred} {s : State} {k : AccessKind} {sg : SegReg} {off : Word}
    {n : Nat} (hq : predicateOf i = some q) (h : s.Executes q (registersNamed i))
    (hacc : firstAccess s i = some (k, sg, off, n)) (hno : ∀ p, ¬s.Reaches k 0 sg off n p) (g : Phys → Result) :
    exec i s = (dataCheck s k 0 sg off n).run g := by
  cases i
  case lb | lbu | lc | lcu | lh | lhu | lw | lvb | lvc | lvh | lvw | lbx | lbux | lcx | lcux | lhx | lhux | lwx |
      lwShort =>
    cases hq
    obtain ⟨hrt, hsome⟩ := Option.ite_none_left_eq_some.mp hacc
    cases hsome
    exact loadReg_unreached h hrt hno g
  case sb | sc | sh | sw | sti | sbx | scx | shx | swx | stix =>
    cases hq
    cases hacc
    exact storeWord_unreached h hno g
  case jci | jhi | jwi | jcix | jhix | jwix =>
    cases hq
    cases hacc
    exact jumpThrough_unreached h hno g
  case lvwar | swcr | cas =>
    cases hq
    cases hacc
    exact guarded_unreached h hno _ g
  case stset | stmov | stcmp | stfnd =>
    cases hq
    obtain ⟨hlc, hsome⟩ := Option.ite_none_left_eq_some.mp hacc
    cases hsome
    exact stringStep_unreached h hno hlc _ g
  case lws =>
    cases hq
    obtain ⟨hlisted, hsome⟩ := Option.ite_none_right_eq_some.mp hacc
    cases hsome
    change execLws _ _ _ _ _ s = _
    rw [execLws, guarded_executes (rs := [_]) h, if_pos hlisted]
    exact dataCheck_run_congr _ _ hno
  case inc =>
    cases hq
    obtain ⟨hform, hsome⟩ := Option.ite_none_right_eq_some.mp hacc
    cases hsome
    change execInc _ _ _ _ _ _ _ s = _
    rw [execInc, guarded_executes (rs := [_]) h, if_pos (by simpa [incFormListed] using hform)]
    exact dataCheck_run_congr _ _ hno
  case sws spr _ _ =>
    cases hq
    obtain ⟨husable, hsome⟩ := Option.ite_none_right_eq_some.mp hacc
    cases hsome
    have hu : s.sprUsable spr := by
      rw [Bool.and_eq_true, Bool.or_eq_true, bne_iff_ne, decide_eq_true_eq] at husable
      exact ⟨husable.1, fun h61 => husable.2.resolve_left (not_not.mpr h61)⟩
    obtain ⟨v, hread⟩ := exists_sprRead (npc := s.npc 5) hu
    change execSws _ _ _ _ _ s = _
    rw [execSws, guarded_executes (rs := [_]) h, hread]
    exact dataCheck_run_congr _ _ hno
  all_goals cases hacc

/-- Settles O21: the checks in their order, the first access of every instruction, and the second of STMOV and
STCMP, which the first access that reaches its address leaves to run. -/
theorem dataAccessChecksInOrder : Obligations.DataAccessChecksInOrder := by
  refine ⟨dataCheck_run_checks, fun i q s k sg off n hq h hacc hno => exec_eq_run_of_unreached hq h hacc hno _,
    fun s q sg sz dir ra rb rc p hlc h hr => ⟨fun hno => ?stmov, fun hno => ?stcmp⟩⟩
  case stmov =>
    show execStmov q sg sz dir ra rb rc s = _
    rw [execStmov, stringStep_runs h hlc, memRead_reaches hr]
    exact dataCheck_run_congr _ _ hno
  case stcmp =>
    show execStcmp q sg sz dir ra rb rc s = _
    rw [execStcmp, stringStep_runs h hlc, memRead_reaches hr]
    exact dataCheck_run_congr _ _ hno

end Sys2Proof.Machine
end

section
/-! PROOFS for 45_string.md: one element of a string instruction a step. -/

namespace Sys2Proof.Machine

/-! ### The end of an element (R461) -/

/-- The state after an element on `t`, with the index register and LC as given. -/
def State.afterElement (t : State) (index : Reg) (v lc npc : Word) : State :=
  { t.setReg index v with
    lc := lc, pc := if lc = 0 then npc else t.pc, progress := if lc = 0 then t.progress else .repeating }

theorem endElement_advance (t : State) (index : Reg) (sz : Size) (dir : Direction) (npc : Word) :
    endElement (t.advance index sz dir) npc =
      .next (t.afterElement index (t.reg index + elementStep sz dir) (t.lc - 1) npc) := by
  by_cases h : t.lc - 1 = 0
  · simp only [endElement, State.afterElement, State.advance, State.setPc, h, if_true, State.setReg_progress]
  · simp only [endElement, State.afterElement, State.advance, h, if_false, State.setReg_pc]

/-- An element on `t`, where `t` is `s` but for memory, stale bytes and the TLB. -/
theorem afterElement_ends {s t : State} (index : Reg) (v lc npc : Word)
    (h : { t with mem := s.mem, stale := s.stale, tlb := s.tlb } = s) :
    ElementEnds s (t.afterElement index v lc npc) index v lc npc := by
  obtain ⟨htarget, hothers, -, -, -⟩ := finishReg_writes t index v npc
  have hregs : t.regs = s.regs := (congrArg State.regs h :)
  have hlc : t.lc = s.lc := (congrArg State.lc h :)
  have hpc : t.pc = s.pc := (congrArg State.pc h :)
  have hprogress : t.progress = s.progress := (congrArg State.progress h :)
  constructor
  case moved => exact htarget
  case others => exact fun r hr => (hothers r hr).trans (by rw [State.reg, State.reg, hregs])
  case count => rfl
  case pc => simp only [State.afterElement, hpc]
  case again => simp only [State.afterElement, hprogress]
  case rest =>
    refine Eq.trans ?_ h
    simp [State.afterElement, hregs, hlc, hpc, hprogress]

/-- An element that stores: memory, stale bytes and the TLB are the store's. -/
theorem afterElement_storeValue {s : State} (p : Phys) (n : Nat) (w : Word) (index : Reg) (v lc npc : Word)
    (hw : s.mem.wf = true) :
    StoresBytes s ((s.storeValue p n w).afterElement index v lc npc) p n w ∧
      ElementEnds s ((s.storeValue p n w).afterElement index v lc npc) index v lc npc := by
  refine ⟨(storeValue_stores s p n w hw).congr ?_ ?_ ?_, afterElement_ends index v lc npc ?_⟩
  case refine_1 | refine_2 | refine_3 => simp [State.afterElement]
  case refine_4 =>
    cases s
    simp

/-- An element that only moves the index and counts. -/
theorem advance_completesElement (s : State) (index : Reg) (sz : Size) (dir : Direction) (npc : Word) :
    completesElement (endElement (s.advance index sz dir) npc) s index (s.reg index + elementStep sz dir) (s.lc - 1)
      npc := by
  refine ⟨_, endElement_advance s index sz dir npc, afterElement_ends index _ _ npc rfl, fun a => ?_, ?_, ?_⟩
  all_goals simp [State.afterElement]

/-- An element that ends the instruction: LC is 0 and the index stays (R465, R466). -/
theorem stop_completesElement (s : State) (index : Reg) (npc : Word) :
    completesElement (endElement { s with lc := 0 } npc) s index (s.reg index) 0 npc := by
  refine ⟨{ s with lc := 0, pc := npc }, rfl, ⟨?_, fun _ _ => rfl, rfl, rfl, rfl, rfl⟩, fun _ => rfl, rfl, rfl⟩
  split
  · subst index
    exact State.reg_zero _
  · rfl

/-! ### The four instructions -/

section
variable {s : State} {q : Pred} {sg : SegReg} {sz : Size} {dir : Direction} {ra rb rc : Reg} {p p' : Phys}

theorem exec_stset_stores (hlc : s.lc ≠ 0) (h : s.Executes q [ra, rb])
    (hr : s.Reaches .store 0 sg (s.reg ra) (sizeBytes sz) p) :
    exec (.stset q sg sz dir ra rb) s = .next ((s.storeValue p (sizeBytes sz) (s.reg rb)).afterElement ra
      (s.reg ra + elementStep sz dir) (s.lc - 1) (s.npc 5)) := by
  show execStset q sg sz dir ra rb s = _
  rw [execStset, stringStep_runs h hlc, memWrite_reaches hr, endElement_advance]
  simp only [State.reg, State.storeValue_regs, State.storeValue_lc]

variable (hlc : s.lc ≠ 0) (h : s.Executes q [ra, rb, rc])
  (hr : s.Reaches .load 0 sg (s.reg ra + s.reg rc) (sizeBytes sz) p)
include hlc h hr

theorem exec_stmov_stores (hr' : s.Reaches .store 1 sg (s.reg rb + s.reg rc) (sizeBytes sz) p') :
    exec (.stmov q sg sz dir ra rb rc) s =
      .next ((s.storeValue p' (sizeBytes sz) (s.loadValue 0 p (sizeBytes sz))).afterElement rc
        (s.reg rc + elementStep sz dir) (s.lc - 1) (s.npc 5)) := by
  show execStmov q sg sz dir ra rb rc s = _
  rw [execStmov, stringStep_runs h hlc, memRead_reaches hr, memWrite_reaches hr', endElement_advance]
  simp only [State.reg, State.storeValue_regs, State.storeValue_lc]

theorem exec_stcmp_eq (hr' : s.Reaches .load 1 sg (s.reg rb + s.reg rc) (sizeBytes sz) p') :
    exec (.stcmp q sg sz dir ra rb rc) s = endElement
      (if s.loadValue 0 p (sizeBytes sz) = s.loadValue 1 p' (sizeBytes sz) then s.advance rc sz dir
        else { s with lc := 0 }) (s.npc 5) := by
  show execStcmp q sg sz dir ra rb rc s = _
  rw [execStcmp, stringStep_runs h hlc, memRead_reaches hr, memRead_reaches hr']

theorem exec_stfnd_eq : exec (.stfnd q sg sz dir ra rb rc) s = endElement
    (if s.loadValue 0 p (sizeBytes sz) = lowBytes (sizeBytes sz) (s.reg rb) then { s with lc := 0 }
      else s.advance rc sz dir) (s.npc 5) := by
  show execStfnd q sg sz dir ra rb rc s = _
  rw [execStfnd, stringStep_runs h hlc, memRead_reaches hr]

end

theorem eq_lowBytes_iff (a v : Word) (n : Nat) : a = lowBytes n v ↔ a.toNat = v.toNat % 2 ^ (8 * n) := by
  have hlt : v.toNat % 2 ^ (8 * n) < 2 ^ 64 := Nat.lt_of_le_of_lt (Nat.mod_le _ _) v.isLt
  rw [← BitVec.toNat_inj, lowBytes, BitVec.toNat_ofNat, Nat.mod_eq_of_lt hlt]

/-- Settles O51: an element is `afterElement` on the state, or on the state with the element stored. -/
theorem stringElements : Obligations.StringElements := by
  refine ⟨fun s q sg sz dir ra rb rc hlc => ⟨fun h => ?stsetDone,
      fun h => ⟨?stmovDone, ?stcmpDone, ?stfndDone⟩⟩,
    fun s q sg sz dir ra rb p hlc hw h hr =>
      ⟨_, exec_stset_stores hlc h hr, afterElement_storeValue p _ _ ra _ _ _ hw⟩,
    fun s q sg sz dir ra rb rc p p' hlc h hr => ⟨fun hr' hw =>
      ⟨_, exec_stmov_stores hlc h hr hr', afterElement_storeValue p' _ _ rc _ _ _ hw⟩, fun hr' => ?stcmp, ?stfnd⟩,
    rfl, rfl, rfl, rfl, ?steps⟩
  case stsetDone =>
    show completesPc (execStset q sg sz dir ra rb s) s _
    rw [execStset, stringStep_done h hlc]
    exact setPc_completes s _
  case stmovDone =>
    show completesPc (execStmov q sg sz dir ra rb rc s) s _
    rw [execStmov, stringStep_done h hlc]
    exact setPc_completes s _
  case stcmpDone =>
    show completesPc (execStcmp q sg sz dir ra rb rc s) s _
    rw [execStcmp, stringStep_done h hlc]
    exact setPc_completes s _
  case stfndDone =>
    show completesPc (execStfnd q sg sz dir ra rb rc s) s _
    rw [execStfnd, stringStep_done h hlc]
    exact setPc_completes s _
  case stcmp =>
    rw [exec_stcmp_eq hlc h hr hr']
    split
    · exact advance_completesElement s rc sz dir _
    · exact stop_completesElement s rc _
  case stfnd =>
    rw [exec_stfnd_eq hlc h hr]
    simp only [eq_lowBytes_iff]
    split
    · exact stop_completesElement s rc _
    · exact advance_completesElement s rc sz dir _
  case steps => rintro (_ | _ | _ | _) <;> exact ⟨rfl, rfl⟩

end Sys2Proof.Machine
end

section
/-! PROOFS for 46_system.md: the interrupt mask, calls into the vector table, barriers, the clock and CACHE, and the
entry of an exception (60_exceptions.md R567, R572). -/

namespace Sys2Proof.Machine

/-! ### The entry of an exception -/

/-- Settles O25: the entry is `raiseException_raises`; the base is one of the two copies of C12. -/
theorem exceptionEntry : Obligations.ExceptionEntry := by
  refine ⟨fun v s => ⟨raiseException_raises, fun hv => ?_⟩, fun s => ?_⟩
  · rw [raiseException, vectorAddress_outside hv]
  · exact oldOrNew_eq_or ..

/-! ### The interrupt mask -/

theorem getLsbD_ite_twoPow {w n : Nat} (b : Bool) (hn : n < w) (j : Nat) :
    (if b then BitVec.twoPow w n else 0#w).getLsbD j = (b && decide (j = n)) := by
  cases b
  · simp
  · simp only [if_true, BitVec.getLsbD_twoPow, hn, decide_true, Bool.true_and]
    simp [eq_comm]

theorem getLsbD_setInterruptMask (s : State) (v : Bool) (j : Nat) :
    (s.setInterruptMask v).sr.getLsbD j = if j = 15 then v else s.sr.getLsbD j := by
  have hbits : (s.setInterruptMask v).sr.getLsbD j =
      (s.sr.getLsbD j && (~~~(0x8000#32)).getLsbD j || (v && decide (j = 15))) := by
    rw [State.setInterruptMask, BitVec.getLsbD_or, BitVec.getLsbD_and]
    exact congrArg _ (getLsbD_ite_twoPow (n := 15) v (by decide) j)
  rw [hbits]
  by_cases hj : j < 32
  · rw [getLsbD_srOnReturn_mask hj]
    by_cases h15 : j = 15 <;> simp [h15]
  · have h15 : j ≠ 15 := by omega
    simp [BitVec.getLsbD_of_ge _ _ (Nat.le_of_not_lt hj), h15]

/-- CLI and SEI in kernel mode, as one (R484, R485). -/
theorem setInterruptMask_completes (s : State) (v : Bool) (npc : Word) :
    ∃ t, Host.Outcome.next ((s.setInterruptMask v).setPc npc) = (.next t : Result) ∧ t.sr.getLsbD 15 = v ∧
      (∀ j, j ≠ 15 → t.sr.getLsbD j = s.sr.getLsbD j) ∧ t.pc = npc ∧ SameMemory s t ∧
      { t with sr := s.sr, pc := s.pc } = s :=
  ⟨_, rfl, (getLsbD_setInterruptMask s v 15).trans (if_pos rfl),
    fun j hj => (getLsbD_setInterruptMask s v j).trans (if_neg hj), rfl, fun _ => rfl, rfl⟩

/-- Settles O26: CLI and SEI write one bit of SR; the privilege check comes first in each kernel-only instruction. -/
theorem interruptMaskAndPrivilege : Obligations.InterruptMaskAndPrivilege := by
  refine fun s q h => ⟨fun hk => ⟨?cli, ?sei⟩, fun hk harea => ⟨?all, fun tn r => ⟨?tlbrdreg, ?tlbwrreg⟩⟩⟩
  case cli =>
    show ∃ t, execCli q s = .next t ∧ _
    rw [execCli, guarded_executes (executes_nil h), privileged_kernel hk]
    exact setInterruptMask_completes s false _
  case sei =>
    show ∃ t, execSei q s = .next t ∧ _
    rw [execSei, guarded_executes (executes_nil h), privileged_kernel hk]
    exact setInterruptMask_completes s true _
  case all =>
    simp only [List.forall_mem_cons, List.not_mem_nil, false_imp_iff, implies_true, and_true]
    refine ⟨?_, ?_, ?_, ?_, ?_, ?_, ?_, ?_, ?_, ?_, ?_, ?_, ?_⟩
    all_goals exact guarded_privileged_raises h hk harea
  case tlbrdreg | tlbwrreg => exact guarded_privileged_raises h hk harea

/-! ### Calls into the vector table -/

/-- The low half of SR with the mode in its S bit (10_state.md R38; log 6). -/
theorem getLsbD_backupOf (kernel : Bool) (sr : BitVec 32) {j : Nat} (hj : j < 16) :
    (backupOf kernel sr).getLsbD j = if j = 13 then kernel else sr.getLsbD j := by
  have hbit : 0x2000#16 = BitVec.twoPow 16 13 := rfl
  rw [backupOf, BitVec.getLsbD_or, hbit, getLsbD_ite_twoPow kernel (by decide)]
  by_cases h13 : j = 13
  · subst h13
    simp
  · simp [h13, hj]

/-- The two S bits of SR as the figure draws it; the rest is SR (10_state.md R38, R40; log 6). -/
theorem getLsbD_statusRegister (s : State) {j : Nat} (hj : j < 32) : s.statusRegister.getLsbD j =
    if j = 13 then (s.kernel == Config.sPolarity) else if j = 29 then (s.sr.getLsbD 29 == Config.sPolarity)
    else s.sr.getLsbD j := by
  have hlow : 0x2000#32 = BitVec.twoPow 32 13 := rfl
  have hhigh : 0x20000000#32 = BitVec.twoPow 32 29 := rfl
  have hmask : 0x20002000#32 = BitVec.twoPow 32 13 ||| BitVec.twoPow 32 29 := rfl
  rw [State.statusRegister, hlow, hhigh, hmask, BitVec.getLsbD_or, BitVec.getLsbD_or, getLsbD_ite_twoPow _ (by decide),
    getLsbD_ite_twoPow _ (by decide)]
  by_cases h13 : j = 13
  · subst h13
    simp
  by_cases h29 : j = 29
  · subst h29
    simp
  · simp [h13, h29, hj]

/-- SR on an interrupt entry: the backup half below is the low half and the mode, and IM is set (R572). -/
theorem getLsbD_srOnEntry (kernel : Bool) (sr : BitVec 32) {j : Nat} (hj : j < 32) : (srOnEntry kernel sr).getLsbD j =
    if j < 16 then sr.getLsbD j || decide (j = 15) else (backupOf kernel sr).getLsbD (j - 16) := by
  have him : 0x8000#32 = BitVec.twoPow 32 15 := rfl
  rw [srOnEntry, BitVec.getLsbD_or, him]
  refine (congrArg (· || _) BitVec.getLsbD_append).trans ?_
  by_cases hlow : j < 16
  · simp [hlow, eq_comm]
  · have h15 : ¬15 = j := by omega
    simp [hlow, h15]

theorem codeReg_setCodeReg_of_ne (s : State) (n : Word) {link : CodeReg} (h0 : link ≠ 0) (h15 : link ≠ 15) (c : CodeReg)
    (v : Word) : (s.setCodeReg link v).codeReg n c = if c = link then v else s.codeReg n c := by
  rw [State.codeReg_setCodeReg]
  by_cases hc : c = link
  · rw [if_pos ⟨hc, h0, h15⟩, if_pos hc]
  · rw [if_neg fun h => hc h.1, if_neg hc]

/-- The backup half after an interrupt entry, as the figure draws it, is the low half before (R572). -/
theorem statusRegister_backup {s t : State} (h : t.sr = srOnEntry s.kernel s.sr) :
    t.statusRegister.extractLsb' 16 16 = s.statusRegister.extractLsb' 0 16 := by
  have hsr : ∀ j, j < 16 → t.sr.getLsbD (16 + j) = if j = 13 then s.kernel else s.sr.getLsbD j := by
    intro j hj
    rw [h, getLsbD_srOnEntry _ _ (by omega), if_neg (by omega), Nat.add_sub_cancel_left, getLsbD_backupOf _ _ hj]
  apply BitVec.eq_of_getLsbD_eq
  intro j hj
  rw [BitVec.getLsbD_extractLsb', BitVec.getLsbD_extractLsb', Nat.zero_add, getLsbD_statusRegister _ (by omega),
    getLsbD_statusRegister _ (by omega), hsr j hj, hsr 13 (by decide)]
  congr 1
  by_cases h13 : j = 13
  · subst h13
    rfl
  · rw [if_neg (by omega), if_neg (by omega), if_neg h13, if_neg h13, if_neg (by omega)]

/-- The entry of INT (46_system.md R482). -/
theorem callInterrupt_enters {v : BitVec 8} {s : State} (hv : s.vectorInArea v) :
    ∃ t, callInterrupt v s = .next t ∧ EntersInterrupt s t v s.pc ∧ t.exc = s.exc := by
  refine ⟨_, by rw [callInterrupt, vectorAddress_inArea hv], ?_, by simp⟩
  constructor
  case saved => exact fun n c => codeReg_setCodeReg_of_ne s n (link := 14) (by decide) (by decide) c s.pc
  case backup => exact statusRegister_backup rfl
  case mask => exact (getLsbD_srOnEntry s.kernel s.sr (j := 15) (by decide)).trans (by simp)
  case flags =>
    apply BitVec.eq_of_getLsbD_eq
    intro j hj
    rw [BitVec.getLsbD_extractLsb', BitVec.getLsbD_extractLsb', Nat.zero_add]
    refine congrArg _ ((getLsbD_srOnEntry s.kernel s.sr (j := j) (by omega)).trans ?_)
    rw [if_pos (by omega), decide_eq_false (by omega), Bool.or_false]
  case mode => rfl
  case pc => rfl
  case memory => exact fun _ => by simp
  case rest => rfl

theorem exec_sys_call {s : State} {q : Pred} (h : s.holds q = true) (off : BitVec 8) :
    exec (.sys q 12 13 off) s = callSystem off (s.npc 4) s := by
  show execSys q 12 13 off s = _
  rw [execSys, guarded_executes (executes_nil h), if_pos (show sysNibbles 12 13 = true from rfl)]

theorem exec_int_call {s : State} {q : Pred} (h : s.holds q = true) (off : BitVec 8) :
    exec (.int q 12 14 off) s = callInterrupt off s := by
  show execInt q 12 14 off s = _
  rw [execInt, guarded_executes (executes_nil h), if_pos (show intNibbles 12 14 = true from rfl)]

/-- Settles O52: BRK is the exception's entry; SYS and INT are refused for the vector's address only. -/
theorem callsIntoTheVectorTable : Obligations.CallsIntoTheVectorTable := by
  refine ⟨fun s hv => raiseException_raises hv, fun s q off h hv => ⟨?sys, ?int⟩,
    fun s q off h hv => ⟨?sysOut, ?intOut⟩⟩
  case sys =>
    rw [exec_sys_call h, callSystem, vectorAddress_inArea hv]
    exact ⟨_, rfl, fun n c => codeReg_setCodeReg_of_ne s n (link := 13) (by decide) (by decide) c _,
      levelUp_toNat s.exl,
      rfl, fun _ => by simp, rfl⟩
  case int =>
    rw [exec_int_call h]
    exact callInterrupt_enters hv
  case sysOut => rw [exec_sys_call h, callSystem, vectorAddress_outside hv]
  case intOut => rw [exec_int_call h, callInterrupt, vectorAddress_outside hv]

/-! ### Barriers -/

/-- Settles O54: each is one next state, whatever its predicate. -/
theorem barriersAndNop : Obligations.BarriersAndNop := by
  refine ⟨fun s q => ⟨⟨_, rfl, rfl, fun n => ?c12, rfl, fun e => ?stale, fun _ => rfl, rfl⟩,
    ⟨_, rfl, rfl, rfl, fun _ => rfl, rfl⟩, setPc_completes s _, setPc_completes s _, setPc_completes s _,
    fun hnone => ?npc, ?takes⟩, rfl, rfl, rfl, rfl, rfl⟩
  case c12 => exact (State.codeReg_of_ne (c := 12) s n (by decide) (by decide)).symm
  case stale =>
    show e ∈ s.stale.filter (fun e => !e.invalidated) ↔ _
    simp
  case npc => simp [State.npc, State.prefixBytes, hnone]
  case takes =>
    simp only [List.forall_mem_cons, List.not_mem_nil, false_imp_iff, implies_true, and_true]
    exact ⟨rfl, rfl, rfl, rfl, rfl⟩

/-! ### The clock and CACHE -/

theorem stale_map_invalidate (s : State) (covers : Nat → Bool) :
    (s.invalidate covers).stale.map (fun e => (e.addr, e.old)) = s.stale.map (fun e => (e.addr, e.old)) := by
  simp [State.invalidate, Function.comp_def]

theorem invalidated_of_mem_invalidate {s : State} {covers : Nat → Bool} {e : StaleByte}
    (he : e ∈ (s.invalidate covers).stale) (hc : covers e.addr = true) : e.invalidated = true := by
  simp only [State.invalidate, List.mem_map] at he
  obtain ⟨a, -, rfl⟩ := he
  exact Bool.or_eq_true _ _ |>.mpr (.inr hc)

theorem lineOf_own {s : State} {a : Word} {p : Phys} (h : s.translate (s.fetchVa 0 a) = .hit p) :
    s.lineOf a p.pa.toNat = true := by
  simp [State.lineOf, h]

/-- Settles O55: the CACHE commands set marks on stale bytes and nothing else. -/
theorem clockAndCacheCommands : Obligations.ClockAndCacheCommands := by
  refine ⟨fun s q imm h => ?stp, fun s q h => ⟨?invI, ?invD⟩, fun s q ra h => ⟨?invILine, ?invDLine⟩⟩
  case stp =>
    show ∃ t, execStp q imm s = .next t ∧ _
    rw [execStp, guarded_executes (executes_nil h)]
    refine ⟨_, rfl, rfl, ?_, rfl, fun _ => rfl, rfl⟩
    rw [Bool.or_eq_true, beq_iff_eq]
  case invI =>
    show ∃ t, execCacheInvI q s = .next t ∧ _
    rw [execCacheInvI, guarded_executes (executes_nil h)]
    exact ⟨_, rfl, rfl, stale_map_invalidate s fun _ => true,
      fun e he => invalidated_of_mem_invalidate (covers := fun _ => true) he rfl, fun _ => rfl, rfl⟩
  case invD =>
    show completesPc (execCacheInvD q s) s _
    rw [execCacheInvD, guarded_executes (executes_nil h)]
    exact setPc_completes s _
  case invILine =>
    show ∃ t, execCacheInvILine q ra s = .next t ∧ _
    rw [execCacheInvILine, guarded_executes h]
    refine ⟨_, rfl, rfl, stale_map_invalidate s (s.lineOf (s.reg ra)), fun p hp e he ha => ?_, fun _ => rfl, rfl⟩
    exact invalidated_of_mem_invalidate (covers := s.lineOf (s.reg ra)) he (ha ▸ lineOf_own hp)
  case invDLine =>
    show completesPc (execCacheInvDLine q ra s) s _
    rw [execCacheInvDLine, guarded_executes h]
    exact setPc_completes s _

end Sys2Proof.Machine
end

section
/-! PROOFS for 30_encoding.md section 2: the immediate prefixes, the constants that they extend, and the
instructions that take one. -/

namespace Sys2Proof.Machine

/-! ### Constants under a prefix (R140) -/

/-- A constant of which a prefix gives the bits above bit 7. -/
theorem toInt_append_byte (x : BitVec 56) (y : BitVec 8) : (x ++ y).toInt = x.toInt * 256 + y.toNat := by
  have happend : (x ++ y).toNat = x.toNat * 256 + y.toNat := by
    rw [BitVec.toNat_append, ← Nat.shiftLeft_add_eq_or_of_lt y.isLt, Nat.shiftLeft_eq]
  have hx := x.isLt
  have hy := y.isLt
  rw [BitVec.toInt_eq_toNat_cond, BitVec.toInt_eq_toNat_cond, happend]
  split <;> split <;> omega

theorem toInt_prefixed {w m : Nat} (c : BitVec m) (hm : m ≤ 56) (f : BitVec w) :
    (c.signExtend 56 ++ f.setWidth 8).toInt = c.toInt * 256 + (f.toNat % 256 : Nat) := by
  rw [toInt_append_byte, BitVec.toInt_signExtend_of_le hm, BitVec.toNat_setWidth]

/-- A prefix before which none stands is pending in its unit (R139, R140). -/
theorem setPrefix_taken {s : State} {w m : Nat} (c : BitVec w) (hw : w ≤ 56) (hnone : s.immPrefix = none) :
    ∃ t, setPrefix m (c.signExtend 56) s = .next t ∧ PrefixTaken s t m c.toInt := by
  refine ⟨{ s with immPrefix := some { bytes := m, ext := c.signExtend 56 } }, by rw [setPrefix, hnone], ?_⟩
  constructor
  case constant => exact fun _ f => toInt_prefixed c hw f
  case offset => exact fun _ f _ => toInt_prefixed c hw f
  case after => exact fun _ => rfl
  case memory => exact fun _ => rfl
  case rest => rfl

/-! ### The instructions that take a prefix (R142) -/

/-- An answer of the decoder that the last column of R142 allows for the opcode byte. -/
def markedRight (op : Nat) : Decoded → Bool
  | .ok i => takesImmediate i == immediateOpcodes.contains op
  | .error _ => true

theorem not_mem_immediateOpcodes_low : ∀ op < 0x20, immediateOpcodes.contains op = false := by decide

theorem mem_immediateOpcodes_cmpi : ∀ op < 0x30, 0x20 ≤ op → immediateOpcodes.contains op = true := by decide

theorem not_mem_immediateOpcodes_br : ∀ op < 0x40, 0x30 ≤ op → immediateOpcodes.contains op = false := by decide

theorem markedRight_decodeTst {op : Nat} (hop : op < 0x20) (q : Pred) (o2 : Nat) (pt : PredReg) (ra : Reg) :
    markedRight op (decodeTst q o2 pt ra) = true := by
  have hmem := not_mem_immediateOpcodes_low op hop
  unfold decodeTst
  split <;> simp only [markedRight, hmem] <;> rfl

theorem markedRight_decodeCmp {op : Nat} (hop : op < 0x20) (q : Pred) (opc : Nat) (pt : PredReg) (ra rb : Reg) :
    markedRight op (decodeCmp q opc pt ra rb) = true := by
  have hmem := not_mem_immediateOpcodes_low op hop
  unfold decodeCmp
  split <;> simp only [markedRight, hmem] <;> rfl

/-- One case for each row of the opcode map, the sub-tables with a split of their own; the tags number the rows of
`decodeOpcode`. -/
theorem markedRight_decodeOpcode (q : Pred) (op v : Nat) : markedRight op (decodeOpcode q op v) = true := by
  unfold decodeOpcode
  split
  case h_1 => simp only [decodeArith]; split <;> rfl
  case h_2 => simp only [decodeIdent]; split <;> rfl
  case h_3 => simp only [decodePredLogic]; split <;> rfl
  case h_14 => simp only [decodeLogic]; split <;> rfl
  case h_19 => simp only [decodeShift]; split <;> rfl
  case h_27 => simp only [decodeDouble]; split <;> rfl
  case h_28 => simp only [decodeFloatRR]; split <;> rfl
  case h_29 => simp only [decodeSingle]; split <;> rfl
  case h_41 => simp only [decodeJumpIndirect]; split <;> rfl
  case h_58 => simp only [decodeCache]; split <;> rfl
  case h_66 => simp only [decodeMove]; split <;> rfl
  case h_69 => simp only [decodeBitField]; split <;> rfl
  case h_82 => simp only [decodeJumpIndexed]; split <;> rfl
  case h_95 => simp only [decodeTlb]; split <;> rfl
  case h_100 => simp only [decodeBcd]; split <;> rfl
  all_goals rfl

theorem markedRight_decodePredicated (q : Pred) (v : Nat) :
    markedRight (field v 8 8).toNat (decodePredicated q v) = true := by
  simp only [decodePredicated]
  split_ifs with htst hcmp hcmpi hbr
  · exact markedRight_decodeTst (by omega) ..
  · exact markedRight_decodeCmp hcmp ..
  · rw [markedRight, mem_immediateOpcodes_cmpi _ hcmpi (by omega)]
    rfl
  · rw [markedRight, not_mem_immediateOpcodes_br _ hbr (by omega)]
    rfl
  · exact markedRight_decodeOpcode ..

/-- Under a predicate, the opcode byte tells whether the instruction takes a prefix. -/
theorem takesImmediate_iff_of_pred {b op : Byte} {rest : List Byte} {q : Pred} {i : Instr} (hb : firstByte b = .pred q)
    (h : decode (b :: op :: rest) = .ok i) : takesImmediate i = true ↔ op.toNat ∈ immediateOpcodes := by
  have hmarked := markedRight_decodePredicated q (valueOfBytes (b :: op :: rest))
  rw [field_valueOfBytes_second, ← decode_of_firstByte_pred hb, h, markedRight, beq_iff_eq] at hmarked
  rw [hmarked, List.contains_iff_mem]

theorem takesImmediate_of_decodeImmediate {m v : Nat} {i : Instr} (h1 : 1 ≤ m) (h7 : m ≤ 7)
    (h : decodeImmediate m v = .ok i) : takesImmediate i = false := by
  interval_cases m <;> cases h <;> rfl

/-- The three one-byte instructions. -/
theorem eq_of_encodeLength_eq_one {i : Instr} (h : encodeLength i = 1) : i = .brk ∨ i = .nop1 ∨ i = .rts1 := by
  cases i
  case brk => exact .inl rfl
  case nop1 => exact .inr (.inl rfl)
  case rts1 => exact .inr (.inr rfl)
  all_goals cases h

/-- An encoding opens with a predicate byte and the opcode byte, or is a prefix, or is one byte long. -/
theorem takesImmediate_iff (i : Instr) : takesImmediate i = true ↔
    isPrefix (encode i) = false ∧ ∃ b op rest, encode i = b :: op :: rest ∧ op.toNat ∈ immediateOpcodes := by
  have hi := decode_encode i
  cases henc : encode i with
  | nil =>
    rw [henc] at hi
    cases hi
    cases henc
  | cons b bs =>
    have hdecode := hi
    rw [henc] at hi
    rw [henc, decode, decodeValue, field_valueOfBytes_first] at hdecode
    cases hb : firstByte b with
    | brk | nop | rts =>
      rw [hb] at hdecode
      cases hdecode
      cases henc
      exact ⟨fun h => (by cases h), fun ⟨_, _, _, _, h, _⟩ => (by cases h)⟩
    | imm m =>
      obtain ⟨-, h1, h7⟩ := toNat_of_firstByte_imm hb
      rw [hb] at hdecode
      simp [takesImmediate_of_decodeImmediate h1 h7 hdecode, isPrefix, hb]
    | pred q =>
      cases bs with
      | nil =>
        have hlen : encodeLength i = 1 := by rw [← length_encode, henc]; rfl
        obtain rfl | rfl | rfl := eq_of_encodeLength_eq_one hlen <;> cases henc <;> cases hb
      | cons op rest =>
        rw [takesImmediate_iff_of_pred hb hi]
        simp [isPrefix, hb]
    | reserved =>
      rw [hb] at hdecode
      exact absurd hdecode (decodeReserved_ne_ok _ _)

/-- Settles O56: a prefix is one pending constant; the last column of R142 is read off the decoder's rows. -/
theorem immediatePrefixes : Obligations.ImmediatePrefixes := by
  refine ⟨fun s hnone => ⟨fun c => ?_, fun c => ?_, fun c => ?_, fun c => ?_, fun c => ?_, fun c => ?_, fun c => ?_⟩,
    fun s w f cr hnone hw => ⟨?imm, fun hcr => ?zero, fun hcr => ?sign⟩, takesImmediate_iff⟩
  case imm =>
    rw [State.imm, hnone]
    exact BitVec.toInt_signExtend_of_le hw
  case zero =>
    simp only [State.jumpOffset, hnone, hcr, if_false]
    rw [zext, BitVec.toNat_setWidth]
    exact Nat.mod_eq_of_lt (Nat.lt_of_lt_of_le f.isLt (Nat.pow_le_pow_right (by decide) hw))
  case sign =>
    simp only [State.jumpOffset, hnone, hcr, if_true]
    exact BitVec.toInt_signExtend_of_le hw
  all_goals exact setPrefix_taken c (by decide) hnone

end Sys2Proof.Machine
end

section
/-! PROOFS for 46_system.md section 6: the TLB commands that move entries and registers. -/

namespace Sys2Proof.Machine

/-! ### Entries -/

theorem tlbEntry_writeEntry (s : State) (i k : BitVec 6) :
    (s.writeEntry i).tlbEntry k = if k = i then heldEntry s.tlb else s.tlbEntry k := by
  simp only [State.tlbEntry, State.writeEntry, Vector.getElem_set, BitVec.toNat_inj, eq_comm]

theorem getLsbD_wordOfBool (b : Bool) (j : Nat) : (wordOfBool b).getLsbD j = (b && decide (j = 0)) := by
  cases b <;> simp [wordOfBool, BitVec.getLsbD_one]

theorem getLsbD_zext_shiftLeft {w : Nat} (x : BitVec w) (n : Nat) {j : Nat} (hj : j < 64) :
    ((zext x : Word) <<< n).getLsbD j = (decide (n ≤ j) && x.getLsbD (j - n)) := by
  have hle : j - n < 64 := by omega
  have hnot : (!decide (j < n)) = decide (n ≤ j) := by rw [Bool.not_eq_eq_eq_not, ← decide_not]; simp
  rw [BitVec.getLsbD_shiftLeft, zext, BitVec.getLsbD_setWidth, hnot, decide_eq_true hj, decide_eq_true hle,
    Bool.true_and, Bool.true_and]

theorem getLsbD_wordOfBool_shiftLeft (b : Bool) (n : Nat) {j : Nat} (hj : j < 64) :
    (wordOfBool b <<< n).getLsbD j = (b && decide (j = n)) := by
  rw [BitVec.getLsbD_shiftLeft, getLsbD_wordOfBool]
  by_cases h : j = n
  · subst h
    simp [hj]
  · have hne : j < n ∨ j - n ≠ 0 := by omega
    obtain hlt | hne := hne
    · simp [h, hlt]
    · simp [h, hne]

/-- The bits of the ASID holding register, as TLBRD writes them (46_system.md R523). -/
theorem getLsbD_heldAsid (e : TlbEntry) {j : Nat} (hj : j < 64) : (heldAsid e).getLsbD j =
    ((decide (8 ≤ j) && e.asid.getLsbD (j - 8)) || (decide (4 ≤ j) && e.c.getLsbD (j - 4)) || (e.g && decide (j = 2)) ||
      (e.d && decide (j = 1)) || (e.v && decide (j = 0))) := by
  rw [heldAsid, BitVec.getLsbD_or, BitVec.getLsbD_or, BitVec.getLsbD_or, BitVec.getLsbD_or,
    getLsbD_zext_shiftLeft _ _ hj, getLsbD_zext_shiftLeft _ _ hj, getLsbD_wordOfBool_shiftLeft _ _ hj,
    getLsbD_wordOfBool_shiftLeft _ _ hj, getLsbD_wordOfBool]

theorem heldAsid_asid (e : TlbEntry) : (heldAsid e).extractLsb' 8 8 = e.asid := by
  apply BitVec.eq_of_getLsbD_eq
  intro j hj
  have hc : e.c.getLsbD (8 + j - 4) = false := BitVec.getLsbD_of_ge _ _ (by omega)
  rw [BitVec.getLsbD_extractLsb', getLsbD_heldAsid e (by omega), hc, Nat.add_sub_cancel_left]
  have hne : 8 + j ≠ 2 ∧ 8 + j ≠ 1 := by omega
  simp [hj, hne]

theorem heldAsid_c (e : TlbEntry) : (heldAsid e).extractLsb' 4 3 = e.c := by
  apply BitVec.eq_of_getLsbD_eq
  intro j hj
  rw [BitVec.getLsbD_extractLsb', getLsbD_heldAsid e (by omega), Nat.add_sub_cancel_left]
  have hne : 4 + j ≠ 2 ∧ 4 + j ≠ 1 ∧ ¬8 ≤ 4 + j := by omega
  simp [hj, hne]

/-- The bits of the register that no field of the entry fills. -/
theorem heldAsid_unused (e : TlbEntry) {j : Nat} (hj : j = 3 ∨ j = 7 ∨ 16 ≤ j) : (heldAsid e).getLsbD j = false := by
  by_cases hlt : j < 64
  · rw [getLsbD_heldAsid e hlt]
    obtain rfl | rfl | hhigh := hj
    · simp
    · simp
    · rw [BitVec.getLsbD_of_ge e.asid _ (by omega), BitVec.getLsbD_of_ge e.c _ (by omega)]
      simp
      omega
  · exact BitVec.getLsbD_of_ge _ _ (by omega)

/-- A random way is not below Wired and is one of the eight (10_state.md R57). -/
theorem randomWay_bounds (s : State) : s.tlb.wired.toNat ≤ s.randomWay.toNat ∧ s.randomWay.toNat < 8 := by
  have hwired := s.tlb.wired.isLt
  have hdraw := Nat.mod_lt (Config.randomDraw s.clock) (show 0 < 8 - s.tlb.wired.toNat by omega)
  rw [State.randomWay, BitVec.toNat_ofNat]
  omega

theorem toNat_tlbSlot_heldSet (way : BitVec 3) (t : Tlb) :
    (tlbSlot way (heldSet t)).toNat = 8 * way.toNat + t.virtPage.toNat / 2 ^ (2 * t.pageSize.toNat) % 8 := by
  rw [tlbSlot, heldSet, BitVec.toNat_append, ← Nat.shiftLeft_add_eq_or_of_lt (BitVec.isLt _), Nat.shiftLeft_eq,
    BitVec.extractLsb'_toNat, Nat.shiftRight_eq_div_pow]
  omega

/-! ### Registers -/

section
variable {s : State} {q : Pred} (h : s.holds q = true) (hk : s.kernel = true)
include h hk

/-- TLBRDREG writes what its number reads as (R528). -/
theorem tlbrdreg_completes {tn : BitVec 4} (r : Reg) {v : Word} (hv : s.tlbRegister tn = some v) :
    completesReg (exec (.tlbrdreg q tn r) s) s 4 r v := by
  show completesReg (execTlbrdreg q tn r s) s 4 r v
  rw [execTlbrdreg, tlbCommand_runs h hk, hv]
  exact finishReg_completes s 4 r v

/-- TLBWRREG leaves the registers that its number's write gives (R529). -/
theorem exec_tlbwrreg_kernel {tn : BitVec 4} (r : Reg) {t : Tlb} (ht : setTlbRegister s.tlb tn (s.reg r) = some t) :
    exec (.tlbwrreg q tn r) s = .next { s with tlb := t, pc := s.npc 4 } := by
  show execTlbwrreg q tn r s = _
  rw [execTlbwrreg, tlbCommand_runs h hk, ht]

theorem exec_tlbpb_kernel : exec (.tlbpb q) s =
    .next { s with tlb := { s.tlb with index := Config.probeIndex s.clock }, pc := s.npc 4 } := by
  change execTlbpb q s = _
  exact tlbCommand_runs h hk

theorem exec_tlbrd_kernel : exec (.tlbrd q) s = .next { s with
    tlb := { s.tlb with
      virtPage := zext (s.tlbEntry s.tlb.index).virtPage, physPage := zext (s.tlbEntry s.tlb.index).physPage,
      asidReg := heldAsid (s.tlbEntry s.tlb.index) }
    pc := s.npc 4 } := by
  change execTlbrd q s = _
  exact tlbCommand_runs h hk

theorem exec_tlbwi_kernel : exec (.tlbwi q) s = .next ((s.writeEntry s.tlb.index).setPc (s.npc 4)) := by
  change execTlbwi q s = _
  exact tlbCommand_runs h hk

theorem exec_tlbwr_kernel : exec (.tlbwr q) s =
    .next ((s.writeEntry (tlbSlot s.randomWay (heldSet s.tlb))).setPc (s.npc 4)) := by
  change execTlbwr q s = _
  exact tlbCommand_runs h hk

end

/-- Settles O58: entries by `tlbEntry_writeEntry`, registers by the two tables of numbers. -/
theorem tlbRegisterCommands : Obligations.TlbRegisterCommands := by
  refine ⟨fun s q h hk => ⟨⟨_, exec_tlbpb_kernel h hk⟩, ?tlbrd, ?tlbwi, ?tlbwr⟩, fun s q r h hk =>
    ⟨?r0, ?r1, ?r3, ?r4, ?r5, ?r7, ?r8, ?r9, ?r10, ?r11, ?random, ?w0, ?w1, ?w3, ?w4, ?w5, ?w7, ?w8, ?w9, ?w10, ?w11,
      ?w2⟩⟩
  case tlbrd =>
    refine ⟨_, exec_tlbrd_kernel h hk, rfl, rfl, heldAsid_asid _, heldAsid_c _, ?g, ?d, ?v,
      heldAsid_unused _ (.inl rfl),
      fun j hj => heldAsid_unused _ (.inr hj), rfl, fun _ => rfl, rfl⟩
    case g | d | v => exact (getLsbD_heldAsid _ (by decide)).trans (by simp)
  case tlbwi =>
    exact ⟨_, exec_tlbwi_kernel h hk, tlbEntry_writeEntry s s.tlb.index, rfl, fun _ => rfl, rfl⟩
  case tlbwr =>
    obtain ⟨hlow, hhigh⟩ := randomWay_bounds s
    refine ⟨_, s.randomWay.toNat, exec_tlbwr_kernel h hk, hlow, hhigh, fun i => ?_, rfl, fun _ => rfl, rfl⟩
    refine (tlbEntry_writeEntry s _ i).trans ?_
    rw [← toNat_tlbSlot_heldSet]
    simp only [BitVec.toNat_inj]
    rfl
  case random =>
    obtain ⟨hlow, hhigh⟩ := randomWay_bounds s
    have hzext : (zext s.randomWay : Word).toNat = s.randomWay.toNat := BitVec.toNat_setWidth_of_le (by decide)
    exact ⟨zext s.randomWay, by rwa [hzext], by rwa [hzext], tlbrdreg_completes h hk r rfl⟩
  case r0 | r1 | r3 | r4 | r5 | r7 | r8 | r9 | r10 | r11 => exact tlbrdreg_completes h hk r rfl
  case w0 | w1 | w2 | w3 | w4 | w5 | w7 | w8 | w9 | w10 | w11 => exact exec_tlbwrreg_kernel h hk r rfl

end Sys2Proof.Machine
end

section
/-! PROOFS for 47_map_only.md, 10_state.md R23 and the fields that the spec reserves: what an
instruction is refused for, by name. -/

namespace Sys2Proof.Machine

/-! ### Names that stand in the opcode map only -/

/-- A map-only name without registers is refused whatever its predicate (47_map_only.md R540). -/
theorem exec_mapOnly_refused {i : Instr} (s : State) (hm : mapOnly i = true) (hnone : registersNamed i = []) :
    exec i s = .refused .floatingPoint ∨ exec i s = .refused .stackInstruction ∨ exec i s = .refused .nameOnly := by
  cases i
  case fmac | fmov | ftoi | itof | fneg | fabs | fsign | fman | fnabs | fstat | frm | fcmp | fadd | fsub | fmul | fdiv |
      fcmps | fadds | fsubs | fmuls | fdivs | fmovs | ftois | itofs | fnegs | fabss | fsigns | fmans | fnabss | ftx |
      fcx | fex | fdx | ftst | fstst | fscmp | lfs | lfd | sfs | sfd => exact .inl rfl
  case push | pea | pop | link | unlink => exact .inr (.inl rfl)
  case immFF => exact .inr (.inr rfl)
  case sgn | redor | redand | par => cases hnone
  all_goals cases hm

/-- The four names of known format, their predicate true (R541, R543). -/
theorem exec_formatGiven_refused {i : Instr} {q : Pred} {s : State} {rt ra : Reg}
    (hi : i = .sgn q rt ra ∨ i = .redor q rt ra ∨ i = .redand q rt ra ∨ i = .par q rt ra) (h : s.Executes q [rt, ra]) :
    exec i s = .refused .nameOnly := by
  have hrefused : (guarded q 4 [rt, ra] s fun _ => .refused .nameOnly) = .refused .nameOnly := guarded_executes h
  obtain rfl | rfl | rfl | rfl := hi
  all_goals exact hrefused

/-- A map-only name has a known format or names no register. -/
theorem formatGiven_or_registersNamed_eq_nil {i : Instr} {q : Pred} (hq : predicateOf i = some q)
    (hm : mapOnly i = true) : FormatGiven q i ∨ registersNamed i = [] := by
  cases i
  case sgn | redor | redand | par =>
    cases hq
    simp [FormatGiven]
  case fmac | fmov | ftoi | itof | fneg | fabs | fsign | fman | fnabs | fstat | frm | fcmp | fadd | fsub | fmul | fdiv |
      fcmps | fadds | fsubs | fmuls | fdivs | fmovs | ftois | itofs | fnegs | fabss | fsigns | fmans | fnabss | ftx |
      fcx | fex | fdx | ftst | fstst | fscmp | lfs | lfd | sfs | sfd | push | pea | pop | link | unlink | immFF =>
    exact .inr rfl
  all_goals cases hm

/-- Settles O59: one refusal for each name of the map. -/
theorem mapOnlyNamesStop : Obligations.MapOnlyNamesStop := by
  refine ⟨fun i s hm hnone => exec_mapOnly_refused s hm hnone, fun s q => ⟨?stack, rfl, rfl⟩,
    fun s q rt ra h => ?format⟩
  case stack =>
    simp only [List.forall_mem_cons, List.not_mem_nil, false_imp_iff, implies_true, and_true]
    exact ⟨rfl, rfl, rfl, rfl, rfl⟩
  case format =>
    intro i hi
    simp only [List.mem_cons, List.not_mem_nil, or_false] at hi
    exact exec_formatGiven_refused hi h

/-! ### Registers of the kernel only (R23) -/

theorem allows_eq_false {s : State} {rs : List Reg} {r : Reg} (hk : s.kernel = false) (hr : r ∈ rs)
    (hlow : 28 ≤ r.toNat) (hhigh : r.toNat ≤ 31) : s.allows rs = false := by
  rw [State.allows, hk, Bool.false_or, List.all_eq_false]
  exact ⟨r, hr, by simp [kernelOnly, hlow, hhigh]⟩

/-- Settles O19: an instruction that names a register runs under `guarded`, which checks the registers that it names. -/
theorem kernelOnlyRegistersRefused : Obligations.KernelOnlyRegistersRefused := by
  refine ⟨fun i q s r hq hs hk hr hlow hhigh => ?_, fun s rs hk => by rw [State.allows, hk, Bool.true_or]⟩
  have hallows := allows_eq_false hk hr hlow hhigh
  have hnil : registersNamed i ≠ [] := List.ne_nil_of_mem hr
  obtain ⟨k, hexec⟩ | (rfl | rfl) | (rfl | rfl) | ⟨hm, hf⟩ := exec_predicated_cases hq s
  · rw [hexec, guarded_refuses hs hallows]
  · exact absurd rfl hnil
  · exact absurd rfl hnil
  · exact absurd rfl hnil
  · exact absurd rfl hnil
  · exact absurd ((formatGiven_or_registersNamed_eq_nil hq hm).resolve_left hf) hnil

/-! ### Reserved fields -/

/-- A check of a field that fails, in an instruction under its predicate. -/
theorem guarded_refused_of_not {q : Pred} {len : Nat} {rs : List Reg} {s : State} {c : Prop} [Decidable c] {a : Result}
    {r : Refusal} (h : s.Executes q rs) (hc : ¬c) :
    (guarded q len rs s fun _ => if c then a else .refused r) = .refused r := by
  rw [guarded_executes h, if_neg hc]

/-- The register numbers that are not listed (10_state.md R53). -/
theorem sprNum_not_listed : ∀ n : SprNum, sprListed n = false →
    n = 54 ∨ n = 55 ∨ n = 56 ∨ n = 57 ∨ n = 58 ∨ n = 62 ∨ n = 63 := by
  decide +kernel

theorem sprRead_of_not_listed {s : State} {npc : Word} {n : SprNum} (h : sprListed n = false) :
    s.sprRead npc n = .refuse .sprNumber := by
  obtain rfl | rfl | rfl | rfl | rfl | rfl | rfl := sprNum_not_listed n h
  all_goals rfl

theorem sprWrite_of_not_listed {s : State} {n : SprNum} {v : Word} (h : sprListed n = false) :
    s.sprWrite n v = .refuse .sprNumber := by
  obtain rfl | rfl | rfl | rfl | rfl | rfl | rfl := sprNum_not_listed n h
  all_goals rfl

/-- BIR names no debug register above 5 (10_state.md R52). -/
theorem bir_ne {b : BitVec 6} (h : 5 < b.toNat) : ¬b.toNat < 4 ∧ b ≠ 4 ∧ b ≠ 5 :=
  ⟨by omega, by rintro rfl; exact absurd h (by decide), by rintro rfl; exact absurd h (by decide)⟩

theorem sprRead_of_bir {s : State} {npc : Word} (h : 5 < s.bir.toNat) : s.sprRead npc 61 = .refuse .breakoutIndex := by
  obtain ⟨hlow, h4, h5⟩ := bir_ne h
  rw [sprRead_system (by decide)]
  show s.breakoutRead = _
  rw [State.breakoutRead, if_neg hlow, if_neg h4, if_neg h5]

theorem sprWrite_of_bir {s : State} {v : Word} (h : 5 < s.bir.toNat) : s.sprWrite 61 v = .refuse .breakoutIndex := by
  obtain ⟨hlow, h4, h5⟩ := bir_ne h
  show s.breakoutWrite v = _
  rw [State.breakoutWrite, if_neg hlow, if_neg h4, if_neg h5]

/-- A register that is listed is read, or is SPR 61 with a BIR that names no register. -/
theorem sprRead_of_listed {s : State} {npc : Word} {n : SprNum} (h : sprListed n = true) :
    (∃ v, s.sprRead npc n = .ok v) ∨ s.sprRead npc n = .refuse .breakoutIndex := by
  by_cases hbir : n = 61 ∧ 5 < s.bir.toNat
  · obtain ⟨rfl, hbir⟩ := hbir
    exact .inr (sprRead_of_bir hbir)
  · exact .inl (exists_sprRead ⟨h, fun h61 => Nat.le_of_not_lt fun hlt => hbir ⟨h61, hlt⟩⟩)

theorem exec_mfspr_refused {s : State} {q : Pred} {rt : Reg} {n : SprNum} {r : Refusal} (h : s.Executes q [rt])
    (hread : s.sprRead (s.npc 4) n = .refuse r) : exec (.mfspr q rt n) s = .refused r := by
  show execMfspr q rt n s = _
  rw [execMfspr, guarded_executes h, hread]
  rfl

theorem exec_mtspr_refused {s : State} {q : Pred} {ra : Reg} {n : SprNum} {r : Refusal} (h : s.Executes q [ra])
    (hwrite : s.sprWrite n (s.reg ra) = .refuse r) : exec (.mtspr q n ra) s = .refused r := by
  show execMtspr q n ra s = _
  rw [execMtspr, guarded_executes h, hwrite]
  rfl

theorem exec_ldis_refused {s : State} {q : Pred} {n : SprNum} {imm : BitVec 10} (h : s.holds q = true)
    (hn : sprListed n = false) : exec (.ldis q n imm) s = .refused .sprNumber := by
  show execLdis q n imm s = _
  rw [execLdis, guarded_executes (executes_nil h), sprWrite_of_not_listed hn]
  rfl

theorem exec_sws_refused {s : State} {q : Pred} {sg : SegReg} {n : SprNum} {ra : Reg} {disp : BitVec 9}
    (h : s.Executes q [ra]) (hn : sprListed n = false) : exec (.sws q sg n ra disp) s = .refused .sprNumber := by
  show execSws q sg n ra disp s = _
  rw [execSws, guarded_executes h, sprRead_of_not_listed hn]
  rfl

/-- MOVS is refused for either number: the read comes first. -/
theorem exec_movs_refused {s : State} {q : Pred} {nt n : SprNum} (h : s.holds q = true)
    (hn : sprListed nt = false ∨ sprListed n = false) : ∃ r, exec (.movs q nt n) s = .refused r := by
  have hrun : exec (.movs q nt n) s = (s.sprRead (s.npc 4) n).run fun v =>
      ((s.afterSprRead n).sprWrite nt v).run fun t => .next (t.setPc (s.npc 4)) := by
    show execMovs q nt n s = _
    rw [execMovs, guarded_executes (executes_nil h)]
  rw [hrun]
  by_cases hread : sprListed n = false
  · exact ⟨_, by rw [sprRead_of_not_listed hread]; rfl⟩
  obtain ⟨v, hv⟩ | hbir := sprRead_of_listed (s := s) (npc := s.npc 4) (eq_true_of_ne_false hread)
  · have hwrite : (s.afterSprRead n).sprWrite nt v = .refuse .sprNumber :=
      sprWrite_of_not_listed (hn.resolve_right hread)
    exact ⟨.sprNumber, by simp only [hv, Check.run, hwrite]⟩
  · exact ⟨_, by rw [hbir]; rfl⟩

/-- The TLB register numbers that are not listed (10_state.md R57). -/
theorem tlbReg_not_listed : ∀ tn : BitVec 4, tn = 6 ∨ 12 ≤ tn.toNat →
    tn = 6 ∨ tn = 12 ∨ tn = 13 ∨ tn = 14 ∨ tn = 15 := by
  decide

section
variable {s : State} {q : Pred} {tn : BitVec 4} (h : s.holds q = true) (hk : s.kernel = true)
  (htn : tn = 6 ∨ 12 ≤ tn.toNat)
include h hk htn

theorem exec_tlbrdreg_refused (r : Reg) : exec (.tlbrdreg q tn r) s = .refused .tlbRegister := by
  have hnone : s.tlbRegister tn = none := by
    obtain rfl | rfl | rfl | rfl | rfl := tlbReg_not_listed tn htn
    all_goals rfl
  show execTlbrdreg q tn r s = _
  rw [execTlbrdreg, tlbCommand_runs h hk, hnone]

theorem exec_tlbwrreg_refused (r : Reg) : exec (.tlbwrreg q tn r) s = .refused .tlbRegister := by
  have hnone : setTlbRegister s.tlb tn (s.reg r) = none := by
    obtain rfl | rfl | rfl | rfl | rfl := tlbReg_not_listed tn htn
    all_goals rfl
  show execTlbwrreg q tn r s = _
  rw [execTlbwrreg, tlbCommand_runs h hk, hnone]

end

theorem tlbReg_of_not_listed {tn : BitVec 4} (h : tlbRegListed tn = false) : tn = 6 ∨ 12 ≤ tn.toNat := by
  revert h
  revert tn
  decide

/-- An instruction whose fields the spec gives no meaning is refused in kernel mode (log 48). -/
theorem exec_refused_of_not_wellFormed {i : Instr} {q : Pred} {s : State} (hq : predicateOf i = some q)
    (h : s.Executes q (registersNamed i)) (hk : s.kernel = true) (hw : wellFormed i = false) :
    ∃ r, exec i s = .refused r := by
  cases i
  case sys | int | rts4 | inc | lws =>
    cases hq
    exact ⟨_, guarded_refused_of_not h (ne_true_of_eq_false hw)⟩
  case bfins | bfset | bfclr | bfchg | bfextu | bfext | bfinsi =>
    cases hq
    exact ⟨_, guarded_refused_of_not h (of_decide_eq_false hw)⟩
  case mfspr =>
    cases hq
    exact ⟨_, exec_mfspr_refused h (sprRead_of_not_listed hw)⟩
  case mtspr =>
    cases hq
    exact ⟨_, exec_mtspr_refused h (sprWrite_of_not_listed hw)⟩
  case ldis =>
    cases hq
    exact ⟨_, exec_ldis_refused h.holds hw⟩
  case sws =>
    cases hq
    exact ⟨_, exec_sws_refused h hw⟩
  case movs =>
    cases hq
    exact exec_movs_refused h.holds (Bool.and_eq_false_iff.mp hw)
  case tlbrdreg =>
    cases hq
    exact ⟨_, exec_tlbrdreg_refused h.holds hk (tlbReg_of_not_listed hw) _⟩
  case tlbwrreg =>
    cases hq
    exact ⟨_, exec_tlbwrreg_refused h.holds hk (tlbReg_of_not_listed hw) _⟩
  case sgn | redor | redand | par =>
    cases hq
    exact ⟨_, exec_formatGiven_refused (by simp) h⟩
  case fmac | fmov | ftoi | itof | fneg | fabs | fsign | fman | fnabs | fstat | frm | fcmp | fadd | fsub | fmul | fdiv |
      fcmps | fadds | fsubs | fmuls | fdivs | fmovs | ftois | itofs | fnegs | fabss | fsigns | fmans | fnabss | ftx |
      fcx | fex | fdx | ftst | fstst | fscmp | lfs | lfd | sfs | sfd | push | pea | pop | link | unlink | immFF =>
    exact ⟨_, rfl⟩
  all_goals cases hw

/-- Settles O60: each field is checked by one `if`, one number's table, or the mode before it. -/
theorem reservedFieldsRefused : Obligations.ReservedFieldsRefused := by
  refine ⟨fun i q s hq h hk hw => exec_refused_of_not_wellFormed hq h hk hw, fun s q a b off adj im4 h =>
      ⟨fun hab => ?sys, fun hab => ?int, fun hadj => ?rts4⟩, fun s q rt ra mb me h hord => ?fields,
    fun s q rt n h => ⟨fun hn => ⟨exec_mfspr_refused h (sprRead_of_not_listed hn), exec_mtspr_refused h
      (sprWrite_of_not_listed hn)⟩, fun hbir => ⟨exec_mfspr_refused h (sprRead_of_bir hbir), exec_mtspr_refused h
      (sprWrite_of_bir hbir)⟩⟩, fun s q sg o3 sz ra disp amt h hform => ?inc,
    fun s q tn r h hk htn => ⟨exec_tlbrdreg_refused h hk htn r, exec_tlbwrreg_refused h hk htn r⟩⟩
  case sys =>
    have hnot : ¬sysNibbles a b = true := by
      simp only [sysNibbles, Bool.and_eq_true, beq_iff_eq]
      exact fun hboth => hab.elim (· hboth.1) (· hboth.2)
    exact guarded_refused_of_not (executes_nil h) hnot
  case int =>
    have hnot : ¬intNibbles a b = true := by
      simp only [intNibbles, Bool.and_eq_true, beq_iff_eq]
      exact fun hboth => hab.elim (· hboth.1) (· hboth.2)
    exact guarded_refused_of_not (executes_nil h) hnot
  case rts4 => exact guarded_refused_of_not (executes_nil h) (by simpa [adjustAligned] using hadj)
  case fields =>
    have hnot : ¬mb.toNat ≤ me.toNat := Nat.not_le.mpr hord
    simp only [List.forall_mem_cons, List.not_mem_nil, false_imp_iff, implies_true, and_true]
    refine ⟨?_, ?_, ?_, ?_, ?_, ?_⟩
    all_goals exact guarded_refused_of_not h hnot
  case inc =>
    have hnot : ¬incFormListed o3 sz = true := by
      simp only [incFormListed, Bool.and_eq_true, beq_iff_eq, decide_eq_true_eq]
      exact fun hlisted => hform.elim (· hlisted.1) (Nat.not_lt.mpr hlisted.2)
    exact guarded_refused_of_not h hnot

end Sys2Proof.Machine
end

section
/-! PROOFS for 60_exceptions.md sections 3, 5 and 7 and 70_reset_and_hazards.md section 1: interrupts, the reset input,
the stopped clock, and the debug exception. -/

namespace Sys2Proof.Machine

/-! ### Interrupts -/

/-- The injected INT, and EXC gets the vector (60_exceptions.md R572). -/
theorem enterInterrupt_enters {v : BitVec 8} {s : State} (hv : s.vectorInArea v) :
    ∃ t, enterInterrupt v s = .next t ∧ EntersInterrupt s t v s.pc ∧ (Config.excModel = .vector → t.exc = zext v) := by
  obtain ⟨t, ht, hentry, hexc⟩ := callInterrupt_enters (v := v) (s := { s with exc := s.causeValue v }) hv
  obtain ⟨saved, backup, mask, flags, mode, pc, memory, rest⟩ := hentry
  refine ⟨t, ht, ⟨saved, backup, mask, flags, mode, pc, memory, ?_⟩, fun hmodel => ?_⟩
  · exact (congrArg (fun u => { u with exc := s.exc }) rest :)
  · rw [hexc, State.causeValue, hmodel]

section
variable {s : State} (hreset : (beginStep s).pins.rst = false) (hclock : (beginStep s).clk.stopped = false)
include hreset hclock

theorem step_takesNmi (h : takesNmi (beginStep s) = true) : step s = closeStep (enterNmi (beginStep s)) := by
  simp only [step, stepWith, hreset, hclock, h, Bool.false_eq_true, if_false, if_true]

theorem step_takesIrq (hnmi : takesNmi (beginStep s) = false) (h : takesIrq (beginStep s) = true) :
    step s = closeStep (enterInterrupt (beginStep s).pins.vec (beginStep s)) := by
  simp only [step, stepWith, hreset, hclock, hnmi, h, Bool.false_eq_true, if_false, if_true]

end

theorem takesNmi_iff (s : State) : takesNmi s = true ↔ s.nmiEdges ≠ 0 ∧ s.hwi = false := by
  simp [takesNmi, Config.nmiNests]

theorem takesIrq_iff (s : State) :
    takesIrq s = true ↔ s.pins.irq = true ∧ s.interruptMask = false ∧ s.hwi = false := by
  simp [takesIrq, and_assoc]

/-- Settles O9: both entries are `enterInterrupt`, the NMI's from the state with its edge used up. -/
theorem interruptsTaken : Obligations.InterruptsTaken := by
  intro s s0 hreset hclock
  refine ⟨fun hedges hhwi hv => ?nmi, fun hedges hirq hmask hhwi hv => ?irq, fun hedges hmask => ?masked,
    fun hhwi => ?nested⟩
  case nmi =>
    obtain ⟨t, ht, hentry, hexc⟩ := enterInterrupt_enters (v := 254)
      (s := { s0 with nmiEdges := s0.nmiEdges - 1, clk := { rate := 0xAAAA, stopped := false } }) hv
    refine ⟨t, hentry, hexc, ?_⟩
    rw [step_takesNmi hreset hclock ((takesNmi_iff _).mpr ⟨hedges, hhwi⟩)]
    exact congrArg closeStep ht
  case irq =>
    obtain ⟨t, ht, hentry, hexc⟩ := enterInterrupt_enters hv
    refine ⟨t, hentry, hexc, ?_⟩
    have hnmi : takesNmi s0 = false := Bool.eq_false_iff.mpr fun h => ((takesNmi_iff _).mp h).1 hedges
    rw [step_takesIrq hreset hclock hnmi ((takesIrq_iff _).mpr ⟨hirq, hmask, hhwi⟩)]
    exact congrArg closeStep ht
  case masked =>
    refine ⟨hreset, hclock, Bool.eq_false_iff.mpr fun h => ((takesNmi_iff _).mp h).1 hedges,
      Bool.eq_false_iff.mpr fun h => ?_⟩
    obtain ⟨hirq, hunmasked, -⟩ := (takesIrq_iff _).mp h
    obtain hmask | hmask := hmask
    · exact absurd (hmask.symm.trans hunmasked) (by decide)
    · exact absurd (hmask.symm.trans hirq) (by decide)
  case nested =>
    refine ⟨hreset, hclock, Bool.eq_false_iff.mpr fun h => ?_, Bool.eq_false_iff.mpr fun h => ?_⟩
    · exact absurd (hhwi.symm.trans ((takesNmi_iff _).mp h).2) (by decide)
    · exact absurd (hhwi.symm.trans ((takesIrq_iff _).mp h).2.2) (by decide)

/-! ### The reset input and the stopped clock -/

theorem dropLost_same (s : State) : s.dropLost.pins = s.pins ∧ s.dropLost.clk = s.clk ∧
    s.dropLost.nmiEdges = s.nmiEdges ∧ s.dropLost.mem = s.mem := by
  unfold State.dropLost
  split <;> exact ⟨rfl, rfl, rfl, rfl⟩

theorem nextPins_same (s : State) : s.nextPins.nmiEdges = s.nmiEdges ∧ s.nextPins.mem = s.mem := by
  unfold State.nextPins
  split <;> exact ⟨rfl, rfl⟩

theorem noteNmi_same (s : State) (old : Bool) : (s.noteNmi old).pins = s.pins ∧ (s.noteNmi old).mem = s.mem := by
  unfold State.noteNmi
  split <;> exact ⟨rfl, rfl⟩

/-- A rising edge of the NMI line (60_exceptions.md R573, R610). -/
theorem noteNmi_edge {s : State} {old : Bool} (hold : old = false) (hnew : s.pins.nmi = true) :
    s.noteNmi old = { s with clk := { rate := 0xAAAA, stopped := false }, nmiEdges := s.nmiEdges + 1 } := by
  rw [State.noteNmi, hold, hnew]
  rfl

theorem noteNmi_noEdge {s : State} {old : Bool} (h : old = true ∨ s.pins.nmi = false) : s.noteNmi old = s := by
  rw [State.noteNmi, if_neg]
  obtain h | h := h <;> simp [h]

/-- The state of `beginStep` before the NMI line is looked at. -/
def sampled (s : State) : State := { s with immPrefix := none, progress := .retired }.nextPins

theorem beginStep_eq (s : State) : beginStep s = ((sampled s).noteNmi s.pins.nmi).dropLost := rfl

theorem beginStep_pins (s : State) : (beginStep s).pins = (sampled s).pins := by
  rw [beginStep_eq, (dropLost_same _).1, (noteNmi_same _ _).1]

theorem beginStep_mem (s : State) : (beginStep s).mem = s.mem := by
  rw [beginStep_eq, (dropLost_same _).2.2.2, (noteNmi_same _ _).2]
  exact (nextPins_same _).2

theorem beginStep_edge {s : State} (hold : s.pins.nmi = false) (hnew : (beginStep s).pins.nmi = true) :
    (beginStep s).clk = { rate := 0xAAAA, stopped := false } ∧ (beginStep s).nmiEdges = s.nmiEdges + 1 := by
  obtain ⟨-, hclk, hedges, -⟩ := dropLost_same ((sampled s).noteNmi s.pins.nmi)
  rw [beginStep_pins] at hnew
  rw [beginStep_eq, hclk, hedges, noteNmi_edge hold hnew]
  exact ⟨rfl, congrArg (· + 1) (nextPins_same _).1⟩

theorem beginStep_noEdge {s : State} (h : s.pins.nmi = true ∨ (beginStep s).pins.nmi = false) :
    (beginStep s).nmiEdges = s.nmiEdges := by
  obtain ⟨-, -, hedges, -⟩ := dropLost_same ((sampled s).noteNmi s.pins.nmi)
  rw [beginStep_pins] at h
  rw [beginStep_eq, hedges, noteNmi_noEdge h]
  exact (nextPins_same _).1

theorem step_reset {s : State} (h : (beginStep s).pins.rst = true) :
    step s = .next (endStep (warmReset (beginStep s))) := by
  simp only [step, stepWith, h, if_true]

theorem step_stopped {s : State} (hreset : (beginStep s).pins.rst = false) (h : (beginStep s).clk.stopped = true) :
    step s = .next (endStep (beginStep s)) := by
  simp only [step, stepWith, hreset, h, Bool.false_eq_true, if_false, if_true]

/-- What 70_reset_and_hazards.md R620 to R624 give, after the reset input. -/
theorem warmReset_gives (s : State) : (warmReset s).pc = 0xFFFFFFFFFFFFEFF0 ∧ (warmReset s).exl = 0 ∧
    (warmReset s).hwi = true ∧ (warmReset s).interruptMask = true ∧ (warmReset s).tlb.enabled = false ∧
    (warmReset s).dbg.ctrl &&& 0x8F = 0 ∧ (warmReset s).reservation = none ∧ (warmReset s).stale = [] ∧
    (warmReset s).nmiEdges = s.nmiEdges := by
  refine ⟨rfl, rfl, rfl, ?mask, rfl, ?debug, rfl, rfl, by rw [warmReset]⟩
  case mask =>
    show (_ ||| 0x8000#32).getLsbD 15 = true
    rw [BitVec.getLsbD_or]
    exact Bool.or_true _
  case debug =>
    show _ &&& ~~~(0x8F#64) &&& 0x8F#64 = 0
    rw [BitVec.and_assoc]
    exact BitVec.and_zero

/-- Settles O10: the reset values are `warmReset_gives`; the NMI line is looked at before the rest of the step. -/
theorem resetInputAndStoppedClock : Obligations.ResetInputAndStoppedClock := by
  intro s s0
  refine ⟨fun hreset => ?reset, fun hreset hstopped => step_stopped hreset hstopped,
    fun hold hnew => beginStep_edge hold hnew, fun h => beginStep_noEdge h⟩
  case reset =>
    obtain ⟨hpc, hexl, hhwi, hmask, htlb, hdebug, hres, hstale, hedges⟩ := warmReset_gives (beginStep s)
    have hclk := warmReset_clk (beginStep s)
    have hmem := (warmReset_mem (beginStep s)).trans (beginStep_mem s)
    have hstep := step_reset hreset
    generalize warmReset (beginStep s) = w at hpc hexl hhwi hmask htlb hdebug hres hstale hedges hclk hmem hstep
    have hkernel : w.kernel = true := by rw [State.kernel, hhwi, Bool.or_true]
    exact ⟨endStep w, hstep, hpc, hkernel, hexl, hhwi, hmask, htlb, hdebug, hres, hclk, hstale, hedges,
      fun a => congrArg (Memory.read · a) hmem⟩

/-! ### Debug -/

theorem ushiftRight_eq_iff (a b : Word) (n : Nat) : a >>> n = b >>> n ↔ ∀ j, n ≤ j → a.getLsbD j = b.getLsbD j := by
  constructor
  · intro h j hj
    have hbit := congrArg (BitVec.getLsbD · (j - n)) h
    simpa [Nat.add_sub_cancel' hj] using hbit
  · intro h
    apply BitVec.eq_of_getLsbD_eq
    intro j _
    simpa using h (n + j) (Nat.le_add_right n j)

theorem writes_iff (k : AccessKind) : k.writes = true ↔ k ≠ .load := by simp [AccessKind.writes]

/-- One status bit for each register that matches (10_state.md R56). -/
theorem getLsbD_debugHits (hit : Fin 4 → Bool) (n : Fin 4) : (debugHits hit).getLsbD n = hit n := by
  have hbits : ∀ j, (debugHits hit).getLsbD j = ((hit 0 && decide (j = 0)) || (hit 1 && decide (j = 1)) ||
      (hit 2 && decide (j = 2)) || (hit 3 && decide (j = 3))) := fun j => by
    rw [debugHits, show 1#64 = BitVec.twoPow 64 0 from rfl, show 2#64 = BitVec.twoPow 64 1 from rfl,
      show 4#64 = BitVec.twoPow 64 2 from rfl, show 8#64 = BitVec.twoPow 64 3 from rfl]
    simp only [BitVec.getLsbD_or, getLsbD_ite_twoPow, Nat.reduceLT]
  rw [hbits]
  fin_cases n
  all_goals simp

theorem singleSteps_iff {s t : State} {i : Instr} : singleSteps s i t = true ↔
    t.dbg.ctrl.getLsbD 7 = true ∧ s.predicateHolds i = true ∧ t.progress = .retired ∧ s.kernel = false := by
  simp [singleSteps, Config.sstepInKernel, and_assoc]

/-- Settles O11: the single-step exception is what follows a unit under `singleSteps_iff`. -/
theorem debugTraps : Obligations.DebugTraps := by
  refine ⟨fun s t u i hq hw hf hd hrun => ?step, fun d k va n => ?data, fun d va n => ?fetch, fun s hit n => ?status⟩
  case step =>
    have hstep : step s = afterUnit (beginStep s) i t := by
      rw [step_of_decoded hq hw hf hd, hrun, andThen_next]
    refine ⟨fun hbit hretired hmode hpred hv => ?taken, fun h => ?untaken⟩
    case taken =>
      have hsingle := singleSteps_iff.mpr ⟨hbit, predicateHolds_iff.mpr hpred, hretired, hmode⟩
      obtain ⟨w, hentry, hclose⟩ := closeStep_raiseException hv
      exact ⟨w, hentry, by rw [hstep, afterUnit, if_pos hsingle]; exact hclose⟩
    case untaken =>
      rw [hstep]
      refine afterUnit_of_not_singleSteps (Bool.eq_false_iff.mpr fun hsingle => ?_)
      obtain ⟨hbit, hpred, hretired, hmode⟩ := singleSteps_iff.mp hsingle
      obtain h | h | h | ⟨q, hq, h⟩ := h
      · exact absurd (hbit.symm.trans h) (by decide)
      · exact h hretired
      · exact absurd (hmode.symm.trans h) (by decide)
      · exact absurd ((predicateHolds_iff.mp hpred q hq).symm.trans h) (by decide)
  case data =>
    rw [debugDataMatch, debugEnabled, debugType, debugSize, Bool.and_eq_true, Bool.and_eq_true, Bool.or_eq_true,
      Bool.and_eq_true, beq_iff_eq, beq_iff_eq, beq_iff_eq, writes_iff, ushiftRight_eq_iff, and_assoc]
    rfl
  case fetch =>
    rw [debugFetchMatch, debugEnabled, debugType, Bool.and_eq_true, Bool.and_eq_true, beq_iff_eq, beq_iff_eq, and_assoc]
    rfl
  case status =>
    show (s.dbg.stat ||| debugHits hit).getLsbD n = _
    rw [BitVec.getLsbD_or, getLsbD_debugHits]

end Sys2Proof.Machine
end
